-- ==== Sys2Proof/Word.lean ====
section
/-! DEFINITION. The byte and the few fixed-size families of like things that every other file uses. -/

namespace Sys2Proof

/-- One byte of a frame on a serial link. -/
abbrev Byte := BitVec 8

/-- The frame check of Table 10-2, two bytes. -/
abbrev Check := BitVec 16

/-- A lane, L1 to L6, by its place (L1 is 0). -/
abbrev LaneIdx := Fin 6

/-- A record slot of the Settlement Store, 0 to 31 (R123); the store holds no record elsewhere. -/
abbrev SlotIdx := Nat

/-- Four like things, one for each cassette of a station (R150). -/
structure Four (α : Type) where
  c1 : α
  c2 : α
  c3 : α
  c4 : α
  deriving DecidableEq, Repr

namespace Four

/-- The same thing four times. -/
def const {α : Type} (a : α) : Four α := ⟨a, a, a, a⟩

/-- Apply a function to each of the four. -/
def map {α β : Type} (f : α → β) (x : Four α) : Four β := ⟨f x.c1, f x.c2, f x.c3, f x.c4⟩

/-- Combine two families of four place by place. -/
def zip {α β γ : Type} (f : α → β → γ) (x : Four α) (y : Four β) : Four γ :=
  ⟨f x.c1 y.c1, f x.c2 y.c2, f x.c3 y.c3, f x.c4 y.c4⟩

/-- The four in order of cassette number. -/
def toList {α : Type} (x : Four α) : List α := [x.c1, x.c2, x.c3, x.c4]

end Four

end Sys2Proof
end

