-- ==== Sys2Proof/Config.lean ====
section
/-! DEFINITION. What the part fixes (capacities, durations, identity) and the free values that the manual leaves open. -/

namespace Sys2Proof.Config

/-- Debounce hold of the beam and take-off lines, ms (R1, R43). -/
def beamHoldMs : Nat := 3
/-- Debounce hold of the reject line, ms (R55). -/
def rejectHoldMs : Nat := 20
/-- Time with both beams clear that clears a beam fault, ms (R15). -/
def faultClearMs : Nat := 2000
/-- Silence after which a head is lost, ms (R20). -/
def headSilenceMs : Nat := 2000
/-- Silence after which a station link is lost, ms (R146). -/
def stationSilenceMs : Nat := 3000
/-- Gap between two bytes that ends a frame being assembled, ms (R175, R186). -/
def byteGapMs : Nat := 20
/-- Elapsed time of one step of the yard clock, ms (R180). -/
def clockStepMs : Nat := 1000
/-- Timer of dispense step PICK, ms (Table 8-3). -/
def pickMs : Nat := 10000
/-- Timer of dispense step PRESENT, ms (Table 8-3). -/
def presentMs : Nat := 5000
/-- What step OUTCOME allows beyond the take period, s (Table 8-3). -/
def outcomeExtraS : Nat := 10

/-- Capacities of Table 0-2 and of the rules named. -/
def requestBuffer : Nat := 4
def noticeQueue : Nat := 64
def journalSize : Nat := 256
def classCount : Nat := 64
def markCount : Nat := 128
def poolCount : Nat := 16
def accountCount : Nat := 256
def sightingCount : Nat := 2048
def recordCount : Nat := 32
def claimQueue : Nat := 4
def rejectListSize : Nat := 16
def lineCount : Nat := 32
def lineItems : Nat := 65535
def lineUnits : Nat := 786420
def notesPerDispense : Nat := 50
def lanesParked : Nat := 6

/-- Largest values of the ranges of Conventions 3.1 and of the counters. -/
def moneyMax : Nat := 2 ^ 48 - 1
def sequenceMax : Nat := 2 ^ 48 - 1
def tallyMax : Nat := 65535
def unresolvedItemsMax : Nat := 4294967295
def unresolvedUnitsMax : Nat := 51539607540
def retractNotesMax : Nat := 4294967295
def laneCounterMax : Nat := 1073741823
def word32Max : Nat := 4294967295

/-- Identity reported by PART.PING and PART_UP (R181, R183). -/
def vendor : Nat := 0x41D
def part : Nat := 6
def revision : Nat := 1

/-- The start byte of every frame (Table 10-2). -/
def startByte : Byte := 0xA7
/-- The longest body of a frame (Table 10-2). -/
def bodyMax : Nat := 240

/-- The sites at which a value could pass the top of the range the manual states for it. -/
inductive Site where
  | journalSequence
  | unresolvedItems
  | unresolvedUnits
  | retractValue
  | retractNotes
  deriving DecidableEq, Repr

/-- FREE VALUE (log 12): what a field holds after a sum that falls outside the range the manual states for it.
The manual states no result there. -/
opaque outOfRange : Site → Nat → Nat

/-- FREE VALUE (log 13): whether a LANE.SET that both meets a lane that is not OFF and carries a field outside its range
is answered STATE (true) or RANGE (false). R40 gives both refusals and no order. Its argument is the elapsed time. -/
opaque laneSetAnswersState : Nat → Bool

/-- FREE VALUE (log 3): which of several of the part's own events that are due together is taken first. The manual lets either be
taken first. Its argument counts the choices made. -/
opaque ownEventChoice : Nat → Nat

/-- The exact value where it lies in the range `min` to `max`, or below it; otherwise a free value of that range. -/
def fitFrom (site : Site) (min max v : Nat) : Nat :=
  if v ≤ max then v else min + outOfRange site v % (max + 1 - min)

/-- The exact value where it lies in the range 0 to `max`; otherwise a free value of that range. -/
def fit (site : Site) (max v : Nat) : Nat := fitFrom site 0 max v

end Sys2Proof.Config
end

