-- ==== Sys2Proof/Syntax.lean ====
section
/-! DEFINITION. The commands of the part: one constructor of `Instr` for each row of spec/opcode_table.json. -/

namespace Sys2Proof

/-- The two beams of a gate: A upstream, B downstream (chapter 1). -/
inductive Beam where
  | a
  | b
  deriving DecidableEq, Repr

/-- The two payout stations (Table 0-1). -/
inductive StationId where
  | a
  | b
  deriving DecidableEq, Repr

/-- What stands in a frame of Table 10-2 between the length byte and the check. -/
structure Frame where
  kind : Byte
  tag : Byte
  body : List Byte
  deriving DecidableEq, Repr

/-- The configuration of LANE.SET as its body carries it, in the order of Table 3-2. Enumerations are numbered from 0 in the
order their values are listed (R184): kind CRATE, KEG; binding A, B, none; capacity 8, 16, 32; window 16, 32, 64, 128. -/
structure LaneConfigArgs where
  kind : Nat
  binding : Nat
  capacity : Nat
  longLimit : Nat
  stuckLimit : Nat
  earlyHold : Nat
  lateGrace : Nat
  measureAge : Nat
  rejectWindow : Nat
  drainQuiet : Nat
  drainLimit : Nat
  readWindow : Nat
  declareCount : Nat
  clearRun : Nat
  deriving DecidableEq, Repr

/-- The keg part of a class entry (Table 4-2). -/
structure KegPartArgs where
  tare : Nat
  ullage : Nat
  full : Nat
  charge : Nat
  deriving DecidableEq, Repr

/-- A class entry as CLASS.PUT carries it: either part may be present (R184, R61). -/
structure ClassArgs where
  owner : Nat
  type : Nat
  kind : Nat
  deposit : Nat
  crate : Option Nat
  keg : Option KegPartArgs
  deriving DecidableEq, Repr

/-- The fields of ACCOUNT.PUT after the account number (Table 4-3). -/
structure AccountArgs where
  pool : Nat
  mode : Nat
  cashLimit : Nat
  tolerance : Nat
  holdAbove : Nat
  state : Nat
  deriving DecidableEq, Repr

/-- MARK.REMOVE and MARK.GET take a key or a slot (R66). -/
inductive MarkSel where
  | key (owner serial : Nat)
  | slot (n : Nat)
  deriving DecidableEq, Repr

/-- ACCOUNT.REMOVE and ACCOUNT.GET take an account number or a slot (R70). -/
inductive AccountSel where
  | number (n : Nat)
  | slot (n : Nat)
  deriving DecidableEq, Repr

/-- DROP.GET takes a drop number or a lane (R121). -/
inductive DropSel where
  | number (n : Nat)
  | lane (n : Nat)
  deriving DecidableEq, Repr

/-- The part of a drop that DROP.GET asks for (R185). -/
inductive DropPart where
  | summary
  | lines (first : Nat)
  deriving DecidableEq, Repr

/-- RECORD.CLEAR takes a drop number or ALL (R131). -/
inductive ClearSel where
  | number (n : Nat)
  | all
  deriving DecidableEq, Repr

/-- RECORD.GET takes a drop number or a slot (R144). -/
inductive RecordSel where
  | number (n : Nat)
  | slot (n : Nat)
  deriving DecidableEq, Repr

/-- One declaration of DROP.OPEN (R104). -/
structure Declaration where
  cls : Nat
  units : Nat
  deriving DecidableEq, Repr

/-- One entry of DROP.RESOLVE (R116); the cause is numbered in the order of Table 6-1. -/
structure ResolveArgs where
  cause : Nat
  cls : Nat
  items : Nat
  units : Nat
  value : Nat
  deriving DecidableEq, Repr

/-- One override of POOL.PUT (R67). -/
structure Override where
  cls : Nat
  deposit : Nat
  deriving DecidableEq, Repr

/-- One cassette of STATION.LOAD (R150). -/
structure CassetteArgs where
  denomination : Nat
  count : Nat
  threshold : Nat
  deriving DecidableEq, Repr

/-- The commands. Events on lines and links name the lane or station they happen at; requests carry the tag the host chose
and their parameters as sent, so that a value outside its range can be written down and refused. -/
inductive Instr where
  -- resets (R183)
  | powerOnReset
  | rstAssert
  -- the gate (chapter 1)
  | beamLineChange (lane : LaneIdx) (beam : Beam) (high : Bool)
  | beamEdge (lane : LaneIdx) (beam : Beam)
  | longLimit (lane : LaneIdx)
  | stuckLimit (lane : LaneIdx) (beam : Beam)
  | faultClear (lane : LaneIdx)
  -- sensor heads and identity capture (chapter 2)
  | headFrameDiscard (lane : LaneIdx) (frame : Frame) (check : Check)
  | headByteTimeout (lane : LaneIdx)
  | codeFrame (lane : LaneIdx) (owner type serial : Nat)
  | measureFrame (lane : LaneIdx) (form value : Nat)
  | statusFrame (lane : LaneIdx) (condition : Nat)
  | headSilence (lane : LaneIdx)
  | earlyHoldExpiry (lane : LaneIdx)
  | lateGraceExpiry (lane : LaneIdx)
  -- lane control (chapter 3)
  | takeoffLineChange (lane : LaneIdx) (high : Bool)
  | takeoffPulse (lane : LaneIdx)
  | rejectLineChange (lane : LaneIdx) (high : Bool)
  | rejectPress (lane : LaneIdx)
  | rejectWindowExpiry (lane : LaneIdx)
  -- timers of the Classifier, the Drop Unit and the Settlement Store
  | sightingAged
  | drainQuietPoint (lane : LaneIdx)
  | drainLimit (lane : LaneIdx)
  | claimDeadlineExpiry (slot : SlotIdx)
  -- station links (chapter 8)
  | stationFrameDiscard (station : StationId) (frame : Frame) (check : Check)
  | stationByteTimeout (station : StationId)
  | ready (station : StationId)
  | stationLinkSilence (station : StationId)
  | claim (station : StationId) (number code : Nat)
  | picked (station : StationId) (n1 n2 n3 n4 : Nat)
  | presented (station : StationId)
  | taken (station : StationId)
  | retracted (station : StationId)
  | dispenserFault (station : StationId) (code : Nat)
  | dispenseStepTimeout (station : StationId)
  -- the host link (chapter 10)
  | hostFrame (frame : Frame) (check : Check)
  | hostByteTimeout
  | transmitDone
  | yardClockStep
  | unknownRequest (tag kind : Byte)
  -- requests, in the order of the table
  | partPing (tag : Byte)
  | partClock (tag : Byte) (seconds : Nat)
  | partFilter (tag : Byte) (groups : Byte)
  | partRestart (tag : Byte)
  | partCounters (tag : Byte)
  | laneOn (tag : Byte) (lane : Nat)
  | laneOff (tag : Byte) (lane : Nat)
  | laneSet (tag : Byte) (lane : Nat) (config : LaneConfigArgs)
  | laneGet (tag : Byte) (lane : Nat) (clearPeak : Bool)
  | laneJournal (tag : Byte) (lane first count : Nat)
  | laneCounters (tag : Byte) (lane : Nat)
  | classPut (tag : Byte) (number : Nat) (entry : ClassArgs)
  | classRemove (tag : Byte) (number : Nat)
  | classGet (tag : Byte) (number : Nat)
  | markPut (tag : Byte) (owner serial mark : Nat)
  | markRemove (tag : Byte) (sel : MarkSel)
  | markGet (tag : Byte) (sel : MarkSel)
  | poolPut (tag : Byte) (pool : Nat) (accepted : BitVec 64) (overrides : List Override)
  | poolRemove (tag : Byte) (pool : Nat)
  | poolGet (tag : Byte) (pool : Nat)
  | accountPut (tag : Byte) (number : Nat) (fields : AccountArgs)
  | accountRemove (tag : Byte) (sel : AccountSel)
  | accountGet (tag : Byte) (sel : AccountSel)
  | sightHold (tag : Byte) (period : Nat)
  | sightFind (tag : Byte) (owner serial : Nat)
  | sightForget (tag : Byte) (owner serial : Nat)
  | dropOpen (tag : Byte) (lane account : Nat) (driver : List Byte) (declarations : List Declaration)
  | dropClose (tag : Byte) (number : Nat)
  | dropResolve (tag : Byte) (number : Nat) (entries : List ResolveArgs)
  | dropApprove (tag : Byte) (number : Nat) (writeOff : Bool)
  | dropAbandon (tag : Byte) (number : Nat)
  | dropGet (tag : Byte) (sel : DropSel) (part : DropPart)
  | recordCredit (tag : Byte) (number : Nat)
  | recordClear (tag : Byte) (sel : ClearSel)
  | recordGet (tag : Byte) (sel : RecordSel)
  | stationOpen (tag : Byte) (station : Nat)
  | stationClose (tag : Byte) (station : Nat)
  | stationLoad (tag : Byte) (station : Nat) (cassettes : Four CassetteArgs) (claimPeriod takePeriod : Nat) (returnTally : Bool)
  | stationGet (tag : Byte) (station : Nat)
  -- the last rows of the table
  | hostByteReceived (byte : Byte) (stopOk : Bool)
  | takeoffSettledFall (lane : LaneIdx)
  | rejectSettledRelease (lane : LaneIdx)
  deriving DecidableEq, Repr

end Sys2Proof
end

