-- ==== Sys2Proof/WellFormed.lean ====
section
/-! DEFINITION. Which commands can be written down on the links: every operand fits the bytes its layout gives it (R184), and
every frame a body of at most 240 bytes (Table 10-2). Out-of-range values that fit are well formed: the part refuses them
itself (RANGE). -/

namespace Sys2Proof

/-- The value fits in `n` bytes. -/
def fits (n v : Nat) : Bool := decide (v < 256 ^ n)

def Frame.wf (f : Frame) : Bool := decide (f.body.length ≤ 240)

def LaneConfigArgs.wf (c : LaneConfigArgs) : Bool :=
  fits 1 c.kind && fits 1 c.binding && fits 1 c.capacity && fits 2 c.longLimit && fits 1 c.stuckLimit && fits 2 c.earlyHold &&
  fits 2 c.lateGrace && fits 2 c.measureAge && fits 2 c.rejectWindow && fits 2 c.drainQuiet && fits 2 c.drainLimit &&
  fits 1 c.readWindow && fits 1 c.declareCount && fits 1 c.clearRun

def KegPartArgs.wf (k : KegPartArgs) : Bool := fits 2 k.tare && fits 2 k.ullage && fits 2 k.full && fits 3 k.charge

def ClassArgs.wf (c : ClassArgs) : Bool :=
  fits 2 c.owner && fits 1 c.type && fits 1 c.kind && fits 3 c.deposit && c.crate.all (fits 1) && c.keg.all KegPartArgs.wf

def AccountArgs.wf (a : AccountArgs) : Bool :=
  fits 1 a.pool && fits 1 a.mode && fits 4 a.cashLimit && fits 1 a.tolerance && fits 6 a.holdAbove && fits 1 a.state

def MarkSel.wf : MarkSel → Bool
  | .key o n => fits 2 o && fits 3 n
  | .slot n => fits 1 n

def AccountSel.wf : AccountSel → Bool
  | .number n => fits 2 n
  | .slot n => fits 1 n

def DropSel.wf : DropSel → Bool
  | .number n => fits 2 n
  | .lane n => fits 1 n

def DropPart.wf : DropPart → Bool
  | .summary => true
  | .lines n => fits 1 n

def ClearSel.wf : ClearSel → Bool
  | .number n => fits 2 n
  | .all => true

def RecordSel.wf : RecordSel → Bool
  | .number n => fits 2 n
  | .slot n => fits 1 n

def Declaration.wf (d : Declaration) : Bool := fits 1 d.cls && fits 3 d.units

def ResolveArgs.wf (e : ResolveArgs) : Bool :=
  fits 1 e.cause && fits 1 e.cls && fits 2 e.items && fits 3 e.units && fits 3 e.value

def Override.wf (o : Override) : Bool := fits 1 o.cls && fits 3 o.deposit

def CassetteArgs.wf (c : CassetteArgs) : Bool := fits 3 c.denomination && fits 2 c.count && fits 2 c.threshold

/-- A list whose count fits the one-byte count of R184 and whose entries are well formed. -/
def listWf {α : Type} (f : α → Bool) (xs : List α) : Bool := decide (xs.length < 256) && xs.all f

/-- The request kinds of Table 10-3. -/
def requestKinds : List Byte :=
  [0x01, 0x02, 0x03, 0x04, 0x05, 0x10, 0x11, 0x12, 0x13, 0x14, 0x15, 0x20, 0x21, 0x22, 0x28, 0x29, 0x2A, 0x30, 0x31, 0x32,
   0x38, 0x39, 0x3A, 0x40, 0x41, 0x42, 0x48, 0x49, 0x4A, 0x4B, 0x4C, 0x4D, 0x50, 0x51, 0x52, 0x58, 0x59, 0x5A, 0x5B]

/-- Every operand of the command fits its layout. -/
def WellFormed : Instr → Bool
  | .powerOnReset => true
  | .rstAssert => true
  | .beamLineChange _ _ _ => true
  | .beamEdge _ _ => true
  | .longLimit _ => true
  | .stuckLimit _ _ => true
  | .faultClear _ => true
  | .headFrameDiscard _ f _ => f.wf
  | .headByteTimeout _ => true
  | .codeFrame _ o t n => fits 2 o && fits 1 t && fits 3 n
  | .measureFrame _ f v => fits 1 f && fits 2 v
  | .statusFrame _ c => fits 1 c
  | .headSilence _ => true
  | .earlyHoldExpiry _ => true
  | .lateGraceExpiry _ => true
  | .takeoffLineChange _ _ => true
  | .takeoffPulse _ => true
  | .rejectLineChange _ _ => true
  | .rejectPress _ => true
  | .rejectWindowExpiry _ => true
  | .sightingAged => true
  | .drainQuietPoint _ => true
  | .drainLimit _ => true
  | .claimDeadlineExpiry k => decide (k < 32)
  | .stationFrameDiscard _ f _ => f.wf
  | .stationByteTimeout _ => true
  | .ready _ => true
  | .stationLinkSilence _ => true
  | .claim _ n c => fits 2 n && fits 2 c
  | .picked _ a b c d => fits 1 a && fits 1 b && fits 1 c && fits 1 d
  | .presented _ => true
  | .taken _ => true
  | .retracted _ => true
  | .dispenserFault _ c => fits 1 c
  | .dispenseStepTimeout _ => true
  | .hostFrame f _ => f.wf
  | .hostByteTimeout => true
  | .transmitDone => true
  | .yardClockStep => true
  | .unknownRequest _ k => !requestKinds.contains k
  | .partPing _ => true
  | .partClock _ n => fits 4 n
  | .partFilter _ _ => true
  | .partRestart _ => true
  | .partCounters _ => true
  | .laneOn _ l => fits 1 l
  | .laneOff _ l => fits 1 l
  | .laneSet _ l c => fits 1 l && c.wf
  | .laneGet _ l _ => fits 1 l
  | .laneJournal _ l f c => fits 1 l && fits 6 f && fits 1 c
  | .laneCounters _ l => fits 1 l
  | .classPut _ n e => fits 1 n && e.wf
  | .classRemove _ n => fits 1 n
  | .classGet _ n => fits 1 n
  | .markPut _ o n m => fits 2 o && fits 3 n && fits 1 m
  | .markRemove _ x => x.wf
  | .markGet _ x => x.wf
  | .poolPut _ p _ os => fits 1 p && listWf Override.wf os
  | .poolRemove _ p => fits 1 p
  | .poolGet _ p => fits 1 p
  | .accountPut _ n f => fits 2 n && f.wf
  | .accountRemove _ x => x.wf
  | .accountGet _ x => x.wf
  | .sightHold _ p => fits 3 p
  | .sightFind _ o n => fits 2 o && fits 3 n
  | .sightForget _ o n => fits 2 o && fits 3 n
  | .dropOpen _ l a d ds => fits 1 l && fits 2 a && decide (d.length < 256) && listWf Declaration.wf ds
  | .dropClose _ n => fits 2 n
  | .dropResolve _ n es => fits 2 n && listWf ResolveArgs.wf es
  | .dropApprove _ n _ => fits 2 n
  | .dropAbandon _ n => fits 2 n
  | .dropGet _ x p => x.wf && p.wf
  | .recordCredit _ n => fits 2 n
  | .recordClear _ x => x.wf
  | .recordGet _ x => x.wf
  | .stationOpen _ n => fits 1 n
  | .stationClose _ n => fits 1 n
  | .stationLoad _ n cs c t _ =>
      fits 1 n && cs.c1.wf && cs.c2.wf && cs.c3.wf && cs.c4.wf && fits 3 c && fits 1 t
  | .stationGet _ n => fits 1 n
  | .hostByteReceived _ _ => true
  | .takeoffSettledFall _ => true
  | .rejectSettledRelease _ => true

end Sys2Proof
end

