-- ==== Sys2Proof/Decode.lean ====
section
/-! DEFINITION. From bytes to commands and back: the frame check (Table 10-2), the frames of the sensor heads and stations
(Tables 10-8, 10-9) with their validity (R19, R145), and the request bodies of R184 with the encoder that lays them out. No row
of spec/opcode_table.json carries bits, so `decodeTableWord` answers none. -/

namespace Sys2Proof

/-! ## Numbers, least significant byte first (R184) -/

/-- The `n` low bytes of a number, least significant first. -/
def leBytes : Nat → Nat → List Byte
  | 0, _ => []
  | n + 1, v => BitVec.ofNat 8 v :: leBytes n (v / 256)

/-- Take an `n`-byte number off the front. -/
def takeLE : Nat → List Byte → Option (Nat × List Byte)
  | 0, bs => some (0, bs)
  | _ + 1, [] => none
  | n + 1, b :: bs =>
    match takeLE n bs with
    | some (v, rest) => some (b.toNat + 256 * v, rest)
    | none => none

/-- Take an option or presence byte: 0 or 1. -/
def takeFlag (bs : List Byte) : Option (Bool × List Byte) :=
  match bs with
  | b :: rest => if b = 0 then some (false, rest) else if b = 1 then some (true, rest) else none
  | [] => none

/-- Take `n` raw bytes. -/
def takeBytes : Nat → List Byte → Option (List Byte × List Byte)
  | 0, bs => some ([], bs)
  | _ + 1, [] => none
  | n + 1, b :: bs =>
    match takeBytes n bs with
    | some (xs, rest) => some (b :: xs, rest)
    | none => none

/-- Take `n` entries, each by `f`. -/
def takeMany {α : Type} (f : List Byte → Option (α × List Byte)) : Nat → List Byte → Option (List α × List Byte)
  | 0, bs => some ([], bs)
  | n + 1, bs =>
    match f bs with
    | some (x, bs1) =>
      match takeMany f n bs1 with
      | some (xs, rest) => some (x :: xs, rest)
      | none => none
    | none => none

/-- Take a list: a one-byte count and that many entries. -/
def takeList {α : Type} (f : List Byte → Option (α × List Byte)) (bs : List Byte) : Option (List α × List Byte) :=
  match takeLE 1 bs with
  | some (n, rest) => takeMany f n rest
  | none => none

/-- Take a group that a presence byte announces. -/
def takeOption {α : Type} (f : List Byte → Option (α × List Byte)) (bs : List Byte) : Option (Option α × List Byte) :=
  match takeFlag bs with
  | some (true, rest) =>
    match f rest with
    | some (x, r) => some (some x, r)
    | none => none
  | some (false, rest) => some (none, rest)
  | none => none

/-- The body ends here. -/
def whole {α : Type} (x : α) (rest : List Byte) : Option α := if rest.isEmpty then some x else none

def flagByte (b : Bool) : List Byte := [if b then 1 else 0]

/-- A list as R184 carries it. -/
def listBytes {α : Type} (f : α → List Byte) (xs : List α) : List Byte := leBytes 1 xs.length ++ xs.flatMap f

/-- A field that may be absent as R184 carries it. -/
def optionBytes {α : Type} (f : α → List Byte) : Option α → List Byte
  | none => flagByte false
  | some x => flagByte true ++ f x

/-! ## The frame check (Table 10-2) -/

/-- One bit of the division by x^16 + x^12 + x^5 + 1. -/
def crcBit (c : Check) : Check := if c.msb then (c <<< 1) ^^^ 0x1021 else c <<< 1

/-- One byte of the check, most significant bit first. -/
def crcByte (c : Check) (b : Byte) : Check :=
  crcBit (crcBit (crcBit (crcBit (crcBit (crcBit (crcBit (crcBit (c ^^^ (b.zeroExtend 16 <<< 8)))))))))

/-- The check over bytes, from the initial value 0xFFFF, with no final inversion. -/
def crcOf (bs : List Byte) : Check := bs.foldl crcByte 0xFFFF

/-- The bytes the check of a frame covers: length, kind, tag, body. -/
def Frame.covered (f : Frame) : List Byte := leBytes 1 f.body.length ++ [f.kind, f.tag] ++ f.body

/-- The check of a frame. -/
def Frame.check (f : Frame) : Check := crcOf f.covered

/-- A frame on the line (Table 10-2): start byte, covered bytes, check. The check goes low byte first: the model's choice (log 31). -/
def Frame.bytes (f : Frame) : List Byte := Config.startByte :: f.covered ++ leBytes 2 f.check.toNat

/-! ## Sensor-head frames (Table 10-8, R19) -/

/-- A frame of a sensor head. -/
inductive HeadFrame where
  | code (owner type serial : Nat)
  | measure (form value : Nat)
  | status (condition : Nat)
  deriving DecidableEq, Repr

/-- Each field lies within the range Table 2-1 gives it. -/
def HeadFrame.inRange : HeadFrame → Bool
  | .code o t n => decide (o ≤ 4095) && decide (t ≤ 255) && decide (n ≤ 1048575)
  | .measure f v => decide (f ≤ 1) && decide (v ≤ 65535)
  | .status c => decide (c ≤ 255)

/-- The fields of a body by kind and length (Table 10-8). -/
def headBody (kind : Byte) (body : List Byte) : Option HeadFrame :=
  if kind = 0x01 then do
    let (o, bs) ← takeLE 2 body
    let (t, bs) ← takeLE 1 bs
    let (n, bs) ← takeLE 3 bs
    whole (.code o t n) bs
  else if kind = 0x02 then do
    let (f, bs) ← takeLE 1 body
    let (v, bs) ← takeLE 2 bs
    whole (.measure f v) bs
  else if kind = 0x03 then do
    let (c, bs) ← takeLE 1 body
    whole (.status c) bs
  else none

/-- The frame a head sent, when it is valid (R19). -/
def headFrameOf (f : Frame) (check : Check) : Option HeadFrame :=
  if check = f.check then (headBody f.kind f.body).filter HeadFrame.inRange else none

/-! ## Station frames (Table 10-9, R145) -/

/-- A frame of a payout station. -/
inductive StationFrame where
  | ready
  | claim (number code : Nat)
  | picked (notes : Four Nat)
  | presented
  | taken
  | retracted
  | fault (code : Nat)
  deriving DecidableEq, Repr

/-- Each field lies within the range Table 8-1 gives it. -/
def StationFrame.inRange : StationFrame → Bool
  | .ready => true
  | .claim n c => decide (n ≤ 65535) && decide (c ≤ 65535)
  | .picked x => x.toList.all (fun n => decide (n ≤ 255))
  | .presented => true
  | .taken => true
  | .retracted => true
  | .fault c => decide (1 ≤ c) && decide (c ≤ 255)

/-- The fields of a body by kind and length (Table 10-9). -/
def stationBody (kind : Byte) (body : List Byte) : Option StationFrame :=
  if kind = 0x10 then whole .ready body
  else if kind = 0x11 then do
    let (n, bs) ← takeLE 2 body
    let (c, bs) ← takeLE 2 bs
    whole (.claim n c) bs
  else if kind = 0x12 then do
    let (a, bs) ← takeLE 1 body
    let (b, bs) ← takeLE 1 bs
    let (c, bs) ← takeLE 1 bs
    let (d, bs) ← takeLE 1 bs
    whole (.picked ⟨a, b, c, d⟩) bs
  else if kind = 0x13 then whole .presented body
  else if kind = 0x14 then whole .taken body
  else if kind = 0x15 then whole .retracted body
  else if kind = 0x16 then do
    let (c, bs) ← takeLE 1 body
    whole (.fault c) bs
  else none

/-- The frame a station sent, when it is valid (R145). -/
def stationFrameOf (f : Frame) (check : Check) : Option StationFrame :=
  if check = f.check then (stationBody f.kind f.body).filter StationFrame.inRange else none

/-! ## Request bodies (R184, Table 10-3) -/

def takeLaneConfig (bs : List Byte) : Option (LaneConfigArgs × List Byte) := do
  let (kind, bs) ← takeLE 1 bs
  let (binding, bs) ← takeLE 1 bs
  let (capacity, bs) ← takeLE 1 bs
  let (longLimit, bs) ← takeLE 2 bs
  let (stuckLimit, bs) ← takeLE 1 bs
  let (earlyHold, bs) ← takeLE 2 bs
  let (lateGrace, bs) ← takeLE 2 bs
  let (measureAge, bs) ← takeLE 2 bs
  let (rejectWindow, bs) ← takeLE 2 bs
  let (drainQuiet, bs) ← takeLE 2 bs
  let (drainLimit, bs) ← takeLE 2 bs
  let (readWindow, bs) ← takeLE 1 bs
  let (declareCount, bs) ← takeLE 1 bs
  let (clearRun, bs) ← takeLE 1 bs
  some (⟨kind, binding, capacity, longLimit, stuckLimit, earlyHold, lateGrace, measureAge, rejectWindow, drainQuiet, drainLimit,
    readWindow, declareCount, clearRun⟩, bs)

def laneConfigBytes (c : LaneConfigArgs) : List Byte :=
  leBytes 1 c.kind ++ leBytes 1 c.binding ++ leBytes 1 c.capacity ++ leBytes 2 c.longLimit ++ leBytes 1 c.stuckLimit ++
  leBytes 2 c.earlyHold ++ leBytes 2 c.lateGrace ++ leBytes 2 c.measureAge ++ leBytes 2 c.rejectWindow ++
  leBytes 2 c.drainQuiet ++ leBytes 2 c.drainLimit ++ leBytes 1 c.readWindow ++ leBytes 1 c.declareCount ++ leBytes 1 c.clearRun

def takeKegPart (bs : List Byte) : Option (KegPartArgs × List Byte) := do
  let (tare, bs) ← takeLE 2 bs
  let (ullage, bs) ← takeLE 2 bs
  let (full, bs) ← takeLE 2 bs
  let (charge, bs) ← takeLE 3 bs
  some (⟨tare, ullage, full, charge⟩, bs)

def kegPartBytes (k : KegPartArgs) : List Byte := leBytes 2 k.tare ++ leBytes 2 k.ullage ++ leBytes 2 k.full ++ leBytes 3 k.charge

def takeClassEntry (bs : List Byte) : Option (ClassArgs × List Byte) := do
  let (owner, bs) ← takeLE 2 bs
  let (type, bs) ← takeLE 1 bs
  let (kind, bs) ← takeLE 1 bs
  let (deposit, bs) ← takeLE 3 bs
  let (crate, bs) ← takeOption (takeLE 1) bs
  let (keg, bs) ← takeOption takeKegPart bs
  some (⟨owner, type, kind, deposit, crate, keg⟩, bs)

def classEntryBytes (c : ClassArgs) : List Byte :=
  leBytes 2 c.owner ++ leBytes 1 c.type ++ leBytes 1 c.kind ++ leBytes 3 c.deposit ++ optionBytes (leBytes 1) c.crate ++
  optionBytes kegPartBytes c.keg

def takeAccountFields (bs : List Byte) : Option (AccountArgs × List Byte) := do
  let (pool, bs) ← takeLE 1 bs
  let (mode, bs) ← takeLE 1 bs
  let (cashLimit, bs) ← takeLE 4 bs
  let (tolerance, bs) ← takeLE 1 bs
  let (holdAbove, bs) ← takeLE 6 bs
  let (state, bs) ← takeLE 1 bs
  some (⟨pool, mode, cashLimit, tolerance, holdAbove, state⟩, bs)

def accountFieldBytes (a : AccountArgs) : List Byte :=
  leBytes 1 a.pool ++ leBytes 1 a.mode ++ leBytes 4 a.cashLimit ++ leBytes 1 a.tolerance ++ leBytes 6 a.holdAbove ++ leBytes 1 a.state

def takeOverride (bs : List Byte) : Option (Override × List Byte) := do
  let (cls, bs) ← takeLE 1 bs
  let (deposit, bs) ← takeLE 3 bs
  some (⟨cls, deposit⟩, bs)

def overrideBytes (o : Override) : List Byte := leBytes 1 o.cls ++ leBytes 3 o.deposit

def takeDeclaration (bs : List Byte) : Option (Declaration × List Byte) := do
  let (cls, bs) ← takeLE 1 bs
  let (units, bs) ← takeLE 3 bs
  some (⟨cls, units⟩, bs)

def declarationBytes (d : Declaration) : List Byte := leBytes 1 d.cls ++ leBytes 3 d.units

def takeResolve (bs : List Byte) : Option (ResolveArgs × List Byte) := do
  let (cause, bs) ← takeLE 1 bs
  let (cls, bs) ← takeLE 1 bs
  let (items, bs) ← takeLE 2 bs
  let (units, bs) ← takeLE 3 bs
  let (value, bs) ← takeLE 3 bs
  some (⟨cause, cls, items, units, value⟩, bs)

def resolveBytes (e : ResolveArgs) : List Byte :=
  leBytes 1 e.cause ++ leBytes 1 e.cls ++ leBytes 2 e.items ++ leBytes 3 e.units ++ leBytes 3 e.value

def takeCassette (bs : List Byte) : Option (CassetteArgs × List Byte) := do
  let (denomination, bs) ← takeLE 3 bs
  let (count, bs) ← takeLE 2 bs
  let (threshold, bs) ← takeLE 2 bs
  some (⟨denomination, count, threshold⟩, bs)

def cassetteBytes (c : CassetteArgs) : List Byte := leBytes 3 c.denomination ++ leBytes 2 c.count ++ leBytes 2 c.threshold

def takeMarkSel (bs : List Byte) : Option (MarkSel × List Byte) := do
  let (slotForm, bs) ← takeFlag bs
  if slotForm then
    let (n, bs) ← takeLE 1 bs
    some (.slot n, bs)
  else
    let (owner, bs) ← takeLE 2 bs
    let (serial, bs) ← takeLE 3 bs
    some (.key owner serial, bs)

def markSelBytes : MarkSel → List Byte
  | .key o n => flagByte false ++ leBytes 2 o ++ leBytes 3 n
  | .slot n => flagByte true ++ leBytes 1 n

def takeAccountSel (bs : List Byte) : Option (AccountSel × List Byte) := do
  let (slotForm, bs) ← takeFlag bs
  if slotForm then
    let (n, bs) ← takeLE 1 bs
    some (.slot n, bs)
  else
    let (n, bs) ← takeLE 2 bs
    some (.number n, bs)

def accountSelBytes : AccountSel → List Byte
  | .number n => flagByte false ++ leBytes 2 n
  | .slot n => flagByte true ++ leBytes 1 n

def takeDropSel (bs : List Byte) : Option (DropSel × List Byte) := do
  let (laneForm, bs) ← takeFlag bs
  if laneForm then
    let (n, bs) ← takeLE 1 bs
    some (.lane n, bs)
  else
    let (n, bs) ← takeLE 2 bs
    some (.number n, bs)

def dropSelBytes : DropSel → List Byte
  | .number n => flagByte false ++ leBytes 2 n
  | .lane n => flagByte true ++ leBytes 1 n

def takeDropPart (bs : List Byte) : Option (DropPart × List Byte) := do
  let (linesForm, bs) ← takeFlag bs
  if linesForm then
    let (n, bs) ← takeLE 1 bs
    some (.lines n, bs)
  else
    some (.summary, bs)

def dropPartBytes : DropPart → List Byte
  | .summary => flagByte false
  | .lines n => flagByte true ++ leBytes 1 n

def takeClearSel (bs : List Byte) : Option (ClearSel × List Byte) := do
  let (allForm, bs) ← takeFlag bs
  if allForm then
    some (.all, bs)
  else
    let (n, bs) ← takeLE 2 bs
    some (.number n, bs)

def clearSelBytes : ClearSel → List Byte
  | .number n => flagByte false ++ leBytes 2 n
  | .all => flagByte true

def takeRecordSel (bs : List Byte) : Option (RecordSel × List Byte) := do
  let (slotForm, bs) ← takeFlag bs
  if slotForm then
    let (n, bs) ← takeLE 1 bs
    some (.slot n, bs)
  else
    let (n, bs) ← takeLE 2 bs
    some (.number n, bs)

def recordSelBytes : RecordSel → List Byte
  | .number n => flagByte false ++ leBytes 2 n
  | .slot n => flagByte true ++ leBytes 1 n

/-- A one-number body. -/
def oneNumber (n : Nat) (make : Nat → Instr) (body : List Byte) : Option Instr := do
  let (v, bs) ← takeLE n body
  whole (make v) bs

/-- A body that is an owner and a serial. -/
def ownerSerial (make : Nat → Nat → Instr) (body : List Byte) : Option Instr := do
  let (owner, bs) ← takeLE 2 body
  let (serial, bs) ← takeLE 3 bs
  whole (make owner serial) bs

/-- The request a frame carries (R176, R184): none when its body is not one its kind allows (answered RANGE), and
UNKNOWN_REQUEST for a kind outside Table 10-3. -/
def parseRequest (f : Frame) : Option Instr :=
  let t := f.tag
  let body := f.body
  if f.kind = 0x01 then whole (.partPing t) body
  else if f.kind = 0x02 then oneNumber 4 (.partClock t) body
  else if f.kind = 0x03 then oneNumber 1 (fun g => .partFilter t (BitVec.ofNat 8 g)) body
  else if f.kind = 0x04 then whole (.partRestart t) body
  else if f.kind = 0x05 then whole (.partCounters t) body
  else if f.kind = 0x10 then oneNumber 1 (.laneOn t) body
  else if f.kind = 0x11 then oneNumber 1 (.laneOff t) body
  else if f.kind = 0x12 then do
    let (lane, bs) ← takeLE 1 body
    let (c, bs) ← takeLaneConfig bs
    whole (.laneSet t lane c) bs
  else if f.kind = 0x13 then do
    let (lane, bs) ← takeLE 1 body
    let (clearPeak, bs) ← takeFlag bs
    whole (.laneGet t lane clearPeak) bs
  else if f.kind = 0x14 then do
    let (lane, bs) ← takeLE 1 body
    let (first, bs) ← takeLE 6 bs
    let (count, bs) ← takeLE 1 bs
    whole (.laneJournal t lane first count) bs
  else if f.kind = 0x15 then oneNumber 1 (.laneCounters t) body
  else if f.kind = 0x20 then do
    let (n, bs) ← takeLE 1 body
    let (e, bs) ← takeClassEntry bs
    whole (.classPut t n e) bs
  else if f.kind = 0x21 then oneNumber 1 (.classRemove t) body
  else if f.kind = 0x22 then oneNumber 1 (.classGet t) body
  else if f.kind = 0x28 then do
    let (owner, bs) ← takeLE 2 body
    let (serial, bs) ← takeLE 3 bs
    let (mark, bs) ← takeLE 1 bs
    whole (.markPut t owner serial mark) bs
  else if f.kind = 0x29 then do
    let (x, bs) ← takeMarkSel body
    whole (.markRemove t x) bs
  else if f.kind = 0x2A then do
    let (x, bs) ← takeMarkSel body
    whole (.markGet t x) bs
  else if f.kind = 0x30 then do
    let (p, bs) ← takeLE 1 body
    let (set, bs) ← takeLE 8 bs
    let (os, bs) ← takeList takeOverride bs
    whole (.poolPut t p (BitVec.ofNat 64 set) os) bs
  else if f.kind = 0x31 then oneNumber 1 (.poolRemove t) body
  else if f.kind = 0x32 then oneNumber 1 (.poolGet t) body
  else if f.kind = 0x38 then do
    let (n, bs) ← takeLE 2 body
    let (a, bs) ← takeAccountFields bs
    whole (.accountPut t n a) bs
  else if f.kind = 0x39 then do
    let (x, bs) ← takeAccountSel body
    whole (.accountRemove t x) bs
  else if f.kind = 0x3A then do
    let (x, bs) ← takeAccountSel body
    whole (.accountGet t x) bs
  else if f.kind = 0x40 then oneNumber 3 (.sightHold t) body
  else if f.kind = 0x41 then ownerSerial (.sightFind t) body
  else if f.kind = 0x42 then ownerSerial (.sightForget t) body
  else if f.kind = 0x48 then do
    let (lane, bs) ← takeLE 1 body
    let (account, bs) ← takeLE 2 bs
    let (n, bs) ← takeLE 1 bs
    let (driver, bs) ← takeBytes n bs
    let (ds, bs) ← takeList takeDeclaration bs
    whole (.dropOpen t lane account driver ds) bs
  else if f.kind = 0x49 then oneNumber 2 (.dropClose t) body
  else if f.kind = 0x4A then do
    let (n, bs) ← takeLE 2 body
    let (es, bs) ← takeList takeResolve bs
    whole (.dropResolve t n es) bs
  else if f.kind = 0x4B then do
    let (n, bs) ← takeLE 2 body
    let (w, bs) ← takeFlag bs
    whole (.dropApprove t n w) bs
  else if f.kind = 0x4C then oneNumber 2 (.dropAbandon t) body
  else if f.kind = 0x4D then do
    let (x, bs) ← takeDropSel body
    let (p, bs) ← takeDropPart bs
    whole (.dropGet t x p) bs
  else if f.kind = 0x50 then oneNumber 2 (.recordCredit t) body
  else if f.kind = 0x51 then do
    let (x, bs) ← takeClearSel body
    whole (.recordClear t x) bs
  else if f.kind = 0x52 then do
    let (x, bs) ← takeRecordSel body
    whole (.recordGet t x) bs
  else if f.kind = 0x58 then oneNumber 1 (.stationOpen t) body
  else if f.kind = 0x59 then oneNumber 1 (.stationClose t) body
  else if f.kind = 0x5A then do
    let (n, bs) ← takeLE 1 body
    let (a, bs) ← takeCassette bs
    let (b, bs) ← takeCassette bs
    let (c, bs) ← takeCassette bs
    let (d, bs) ← takeCassette bs
    let (cp, bs) ← takeLE 3 bs
    let (tp, bs) ← takeLE 1 bs
    let (r, bs) ← takeFlag bs
    whole (.stationLoad t n ⟨a, b, c, d⟩ cp tp r) bs
  else if f.kind = 0x5B then oneNumber 1 (.stationGet t) body
  else some (.unknownRequest t f.kind)

/-- The frame of a request row, laid out by R184 and Table 10-3; none for a row that is not a request. -/
def encodeRequest : Instr → Option Frame
  | .partPing t => some ⟨0x01, t, []⟩
  | .partClock t n => some ⟨0x02, t, leBytes 4 n⟩
  | .partFilter t g => some ⟨0x03, t, [g]⟩
  | .partRestart t => some ⟨0x04, t, []⟩
  | .partCounters t => some ⟨0x05, t, []⟩
  | .laneOn t l => some ⟨0x10, t, leBytes 1 l⟩
  | .laneOff t l => some ⟨0x11, t, leBytes 1 l⟩
  | .laneSet t l c => some ⟨0x12, t, leBytes 1 l ++ laneConfigBytes c⟩
  | .laneGet t l p => some ⟨0x13, t, leBytes 1 l ++ flagByte p⟩
  | .laneJournal t l f c => some ⟨0x14, t, leBytes 1 l ++ leBytes 6 f ++ leBytes 1 c⟩
  | .laneCounters t l => some ⟨0x15, t, leBytes 1 l⟩
  | .classPut t n e => some ⟨0x20, t, leBytes 1 n ++ classEntryBytes e⟩
  | .classRemove t n => some ⟨0x21, t, leBytes 1 n⟩
  | .classGet t n => some ⟨0x22, t, leBytes 1 n⟩
  | .markPut t o n m => some ⟨0x28, t, leBytes 2 o ++ leBytes 3 n ++ leBytes 1 m⟩
  | .markRemove t x => some ⟨0x29, t, markSelBytes x⟩
  | .markGet t x => some ⟨0x2A, t, markSelBytes x⟩
  | .poolPut t p a os => some ⟨0x30, t, leBytes 1 p ++ leBytes 8 a.toNat ++ listBytes overrideBytes os⟩
  | .poolRemove t p => some ⟨0x31, t, leBytes 1 p⟩
  | .poolGet t p => some ⟨0x32, t, leBytes 1 p⟩
  | .accountPut t n a => some ⟨0x38, t, leBytes 2 n ++ accountFieldBytes a⟩
  | .accountRemove t x => some ⟨0x39, t, accountSelBytes x⟩
  | .accountGet t x => some ⟨0x3A, t, accountSelBytes x⟩
  | .sightHold t p => some ⟨0x40, t, leBytes 3 p⟩
  | .sightFind t o n => some ⟨0x41, t, leBytes 2 o ++ leBytes 3 n⟩
  | .sightForget t o n => some ⟨0x42, t, leBytes 2 o ++ leBytes 3 n⟩
  | .dropOpen t l a d ds =>
      some ⟨0x48, t, leBytes 1 l ++ leBytes 2 a ++ leBytes 1 d.length ++ d ++ listBytes declarationBytes ds⟩
  | .dropClose t n => some ⟨0x49, t, leBytes 2 n⟩
  | .dropResolve t n es => some ⟨0x4A, t, leBytes 2 n ++ listBytes resolveBytes es⟩
  | .dropApprove t n w => some ⟨0x4B, t, leBytes 2 n ++ flagByte w⟩
  | .dropAbandon t n => some ⟨0x4C, t, leBytes 2 n⟩
  | .dropGet t x p => some ⟨0x4D, t, dropSelBytes x ++ dropPartBytes p⟩
  | .recordCredit t n => some ⟨0x50, t, leBytes 2 n⟩
  | .recordClear t x => some ⟨0x51, t, clearSelBytes x⟩
  | .recordGet t x => some ⟨0x52, t, recordSelBytes x⟩
  | .stationOpen t n => some ⟨0x58, t, leBytes 1 n⟩
  | .stationClose t n => some ⟨0x59, t, leBytes 1 n⟩
  | .stationLoad t n cs cp tp r =>
      some ⟨0x5A, t, leBytes 1 n ++ cassetteBytes cs.c1 ++ cassetteBytes cs.c2 ++ cassetteBytes cs.c3 ++ cassetteBytes cs.c4 ++
        leBytes 3 cp ++ leBytes 1 tp ++ flagByte r⟩
  | .stationGet t n => some ⟨0x5B, t, leBytes 1 n⟩
  | .unknownRequest t k => if requestKinds.contains k then none else some ⟨k, t, []⟩
  | .powerOnReset => none
  | .rstAssert => none
  | .beamLineChange _ _ _ => none
  | .beamEdge _ _ => none
  | .longLimit _ => none
  | .stuckLimit _ _ => none
  | .faultClear _ => none
  | .headFrameDiscard _ _ _ => none
  | .headByteTimeout _ => none
  | .codeFrame _ _ _ _ => none
  | .measureFrame _ _ _ => none
  | .statusFrame _ _ => none
  | .headSilence _ => none
  | .earlyHoldExpiry _ => none
  | .lateGraceExpiry _ => none
  | .takeoffLineChange _ _ => none
  | .takeoffPulse _ => none
  | .rejectLineChange _ _ => none
  | .rejectPress _ => none
  | .rejectWindowExpiry _ => none
  | .sightingAged => none
  | .drainQuietPoint _ => none
  | .drainLimit _ => none
  | .claimDeadlineExpiry _ => none
  | .stationFrameDiscard _ _ _ => none
  | .stationByteTimeout _ => none
  | .ready _ => none
  | .stationLinkSilence _ => none
  | .claim _ _ _ => none
  | .picked _ _ _ _ _ => none
  | .presented _ => none
  | .taken _ => none
  | .retracted _ => none
  | .dispenserFault _ _ => none
  | .dispenseStepTimeout _ => none
  | .hostFrame _ _ => none
  | .hostByteTimeout => none
  | .transmitDone => none
  | .yardClockStep => none
  | .hostByteReceived _ _ => none
  | .takeoffSettledFall _ => none
  | .rejectSettledRelease _ => none

/-- No row of spec/opcode_table.json gives a word: none for every word. -/
def decodeTableWord (_nbits _w : Nat) : Option Instr := none

end Sys2Proof
end

