-- ==== Sys2Proof/Machine/State.lean ====
section
/-! DEFINITION. The state of the part as plain data, block by block, and the state right after reset. -/

namespace Sys2Proof.Machine

/-! ## Lines and receivers -/

/-- The debouncer of one input line (R1, R43, R55): the raw level, the settled level (true is blocked, high or pressed) and
the start of a running hold. -/
structure Debouncer where
  line : Bool
  settled : Bool
  hold : Option Nat
  deriving DecidableEq, Repr

/-- A link receiver (R175, R186): hunting, or assembling with the bytes after the start byte and the time of the last one. -/
inductive Receiver where
  | hunting
  | assembling (bytes : List Byte) (last : Nat)
  deriving DecidableEq, Repr

/-! ## Items (chapters 1 and 2) -/

/-- A container code (Table 0-6). -/
structure Code where
  owner : Nat
  type : Nat
  serial : Nat
  deriving DecidableEq, Repr

/-- What a measuring unit reports (Table 2-1). -/
inductive Form where
  | layers
  | weight
  deriving DecidableEq, Repr

structure Measurement where
  form : Form
  value : Nat
  deriving DecidableEq, Repr

/-- The code state of an item (R25). -/
inductive CodeState where
  | none
  | one (code : Code)
  | multi
  deriving DecidableEq, Repr

/-- A forward item held by the gate, or waiting (R2, R7, R25): the time its code window opened, its long timer (the start,
while it holds A), its LONG flag, its sample, the time A cleared, and the code state and head-lost mark that Identity Capture
keeps for it. -/
structure FwdItem where
  opened : Nat
  longTimer : Option Nat
  long : Bool
  sample : Option Measurement
  aCleared : Option Nat
  code : CodeState
  headLost : Bool
  deriving DecidableEq, Repr

/-- The beam or beams named by a beam fault (R14). -/
inductive FaultBeams where
  | a
  | b
  | both
  deriving DecidableEq, Repr

/-- The gate states of Table 1-1 with the items each holds. A reversing item keeps the time it was first seen at B. FAULT keeps
the beams at fault and its fault-clear timer (R15); the beam-fault status of R16 is set exactly in FAULT. -/
inductive Gate where
  | idle
  | enter (item : FwdItem)
  | span (item : FwdItem)
  | exit (item : FwdItem)
  | exitEnter (exiting entering : FwdItem)
  | back (seenB : Nat)
  | backSpan (seenB : Nat)
  | backExit (seenB : Nat)
  | fault (beams : FaultBeams) (clearTimer : Option Nat)
  | reset
  deriving DecidableEq, Repr

/-- The head state (R20); PRESENT keeps its silence timer. -/
inductive HeadState where
  | off
  | present (silence : Nat)
  | lost
  deriving DecidableEq, Repr

/-- The latest measurement (R23). -/
structure Latest where
  value : Measurement
  arrival : Nat
  deriving DecidableEq, Repr

/-- A code in the early hold (R26). -/
structure HeldCode where
  code : Code
  since : Nat
  deriving DecidableEq, Repr

/-- A completed item in its late grace (R29). -/
structure Waiting where
  item : FwdItem
  completed : Nat
  deriving DecidableEq, Repr

/-- Identity Capture's outcome for an item (Table 2-4), with the code and measurement it carries. -/
inductive Capture where
  | ok (code : Code) (measurement : Measurement)
  | unread (measurement : Option Measurement)
  | multiCode (measurement : Option Measurement)
  | noMeasure (code : Code)
  deriving DecidableEq, Repr

/-- The capture cause, in the order of the term's entry (Table 0-4). -/
inductive CaptureCause where
  | ok
  | unread
  | multiCode
  | noMeasure
  deriving DecidableEq, Repr

/-- The item record handed along the item path (R32). -/
structure Item where
  opened : Nat
  aCleared : Nat
  completed : Nat
  long : Bool
  capture : Capture
  deriving DecidableEq, Repr

/-! ## Lane configuration (Table 3-2) -/

inductive LaneKind where
  | crate
  | keg
  deriving DecidableEq, Repr

/-- A binding to a station, or none (Table 3-2); also the station field of a drop (Table 6-1). -/
inductive Binding where
  | a
  | b
  | none
  deriving DecidableEq, Repr

structure LaneConfig where
  kind : LaneKind
  binding : Binding
  capacity : Nat
  longLimit : Nat
  stuckLimit : Nat
  earlyHold : Nat
  lateGrace : Nat
  measureAge : Nat
  rejectWindow : Nat
  drainQuiet : Nat
  drainLimit : Nat
  readWindow : Nat
  declareCount : Nat
  clearRun : Nat
  deriving DecidableEq, Repr

/-- The pacing output (Table 3-4). -/
inductive Pacing where
  | stop
  | slow
  | run
  deriving DecidableEq, Repr

/-- The lane states (R37). -/
inductive LaneState where
  | off
  | idle
  | opened
  | draining
  | parked
  deriving DecidableEq, Repr

/-! ## Drops (chapter 6) -/

/-- Line dispositions, numbered as R184 numbers them. -/
inductive Disposition where
  | accepted
  | heavy
  | full
  | repeated
  | barred
  | refused
  | damaged
  | resolved
  | writtenOff
  deriving DecidableEq, Repr

/-- Unresolved causes, in Table 6-1 order. -/
inductive Cause where
  | unread
  | multiCode
  | noMeasure
  | unknownCode
  | wrongLane
  | linesFull
  deriving DecidableEq, Repr

/-- One line of a drop (R86); `cls` is none for "no class". -/
structure Line where
  cls : Option Nat
  disposition : Disposition
  value : Nat
  items : Nat
  units : Nat
  deriving DecidableEq, Repr

structure Tally where
  items : Nat
  units : Nat
  deriving DecidableEq, Repr

/-- The six unresolved tallies (R87). -/
structure Unresolved where
  unread : Tally
  multiCode : Tally
  noMeasure : Tally
  unknownCode : Tally
  wrongLane : Tally
  linesFull : Tally
  deriving DecidableEq, Repr

/-- The drop record of Table 6-1, its state apart. An empty driver reference or declaration list is one left out (R101, R104). -/
structure DropRec where
  number : Nat
  lane : LaneIdx
  account : Nat
  driver : List Byte
  declarations : List Declaration
  checkCode : Nat
  lines : List Line
  unresolved : Unresolved
  reverse : Nat
  long : Nat
  rejects : Nat
  gateFault : Bool
  drainCut : Bool
  openStamp : Nat
  drainEndStamp : Option Nat
  firstSeq : Nat
  lastSeq : Option Nat
  station : Option Binding
  deriving DecidableEq, Repr

/-- The state of a lane drop (R98). DRAINING keeps the moment DROP.CLOSE was taken: its drain timer and, when the sequencer
holds no A-blocking time, its quiet reference (R105, R106). -/
inductive DropState where
  | opened
  | draining (closedAt : Nat)
  | parked
  deriving DecidableEq, Repr

structure LaneDrop where
  record : DropRec
  state : DropState
  deriving DecidableEq, Repr

/-- One entry of the reject list (R54). -/
structure RejectEntry where
  seq : Nat
  completed : Nat
  cls : Nat
  disposition : Disposition
  value : Nat
  units : Nat
  deriving DecidableEq, Repr

/-! ## Journal and counters (chapter 9) -/

/-- A stamp: yard clock and millisecond offset (R166). -/
structure Stamp where
  clock : Nat
  ms : Nat
  deriving DecidableEq, Repr

/-- The outcome of a classification (R77). -/
inductive ItemOutcome where
  | line (disposition : Disposition)
  | unresolved (cause : Cause)
  deriving DecidableEq, Repr

inductive Direction where
  | forward
  | reversing
  deriving DecidableEq, Repr

inductive DropEnd where
  | quiet
  | cut
  | abandoned
  deriving DecidableEq, Repr

/-- Why a head was declared lost (R21). -/
inductive HeadCause where
  | silent
  | code (n : Nat)
  deriving DecidableEq, Repr

/-- Subjects of FAULT entries (Table 9-2). -/
inductive FaultSubject where
  | beamFault (beams : FaultBeams)
  | beamClear
  | headLost (cause : HeadCause)
  | headBack
  | readDegraded (bad items : Nat)
  | readRestored
  deriving DecidableEq, Repr

/-- The fields of a journal entry by kind (Table 9-1). Times other than the stamp are milliseconds before it (R166). -/
inductive JournalBody where
  | item (drop : Nat) (long : Bool) (capture : Capture) (cls : Option Nat) (outcome : ItemOutcome) (units : Nat)
      (value : Option Nat) (firstLane : Option LaneIdx) (openedAgo aClearedAgo completedAgo : Nat)
  | stray (long : Bool) (capture : Capture) (openedAgo aClearedAgo completedAgo : Nat)
  | reverse (seenBAgo : Nat)
  | reject (seq cls units : Nat)
  | abandoned (direction : Direction) (heldAgo : Nat) (long : Bool)
  | dropOpen (drop account : Nat) (driver : List Byte) (declarations : List Declaration)
  | dropClose (drop : Nat) (how : DropEnd) (items amount : Nat)
  | fault (subject : FaultSubject)
  deriving DecidableEq, Repr

structure JournalEntry where
  seq : Nat
  stamp : Stamp
  body : JournalBody
  deriving DecidableEq, Repr

/-- A lane's journal with its read mark and alarms (R165, R168). -/
structure Journal where
  entries : List JournalEntry
  nextSeq : Nat
  readMark : Nat
  halfArmed : Bool
  wrapArmed : Bool
  deriving DecidableEq, Repr

/-- A lane counter value with its overflow flag (R171). -/
structure Counter where
  value : Nat
  overflow : Bool
  deriving DecidableEq, Repr

/-- The fifteen values of Table 9-3. -/
structure LaneCounters where
  forward : Counter
  reverse : Counter
  bounces : Counter
  glitches : Counter
  longItems : Counter
  abandoned : Counter
  paired : Counter
  unread : Counter
  multiCode : Counter
  strayReads : Counter
  strayItems : Counter
  rejectsApplied : Counter
  lateRejects : Counter
  overflows : Counter
  phantoms : Counter
  deriving DecidableEq, Repr

/-- The fourteen yard counters of Table 9-4. -/
structure YardCounters where
  evicted : Nat
  aged : Nat
  tableFaults : Nat
  unknownDrop : Nat
  wrongStation : Nat
  notReady : Nat
  inProgress : Nat
  closedOut : Nat
  stationOut : Nat
  badCheck : Nat
  locked : Nat
  queueFull : Nat
  framesRejected : Nat
  noticesDiscarded : Nat
  deriving DecidableEq, Repr

/-! ## A lane -/

/-- One Lane Port with the lane's drop: Gate Sequencer, Identity Capture, Lane Control, Journal and Counters. -/
structure Lane where
  inService : Bool
  cfg : LaneConfig
  beamA : Debouncer
  beamB : Debouncer
  takeoff : Debouncer
  reject : Debouncer
  gate : Gate
  stuckA : Option Nat
  stuckB : Option Nat
  lastABlock : Option Nat
  head : HeadState
  lastFault : Nat
  measure : Option Latest
  early : Option HeldCode
  grace : Option Nat
  waiting : Option Waiting
  headRx : Receiver
  occupancy : Nat
  peak : Nat
  latch : Bool
  window : List Bool
  degraded : Bool
  rejects : List RejectEntry
  pacing : Pacing
  journal : Journal
  counters : LaneCounters
  drop : Option LaneDrop
  deriving DecidableEq, Repr

/-! ## Tables (chapter 4) -/

/-- A table entry that is not EMPTY (R58). USABLE holds the stored contents and the contents its check code was computed from
(log 10); the check agrees when the two are equal. An EMPTY entry is not listed. -/
inductive TableEntry (α : Type) where
  | usable (contents written : α)
  | unusable
  deriving DecidableEq, Repr

/-- A table: the entries that are not EMPTY by index or slot, indices strictly rising. -/
abbrev Table (α : Type) := List (Nat × TableEntry α)

/-- The part of a class entry that depends on its kind (Table 4-2). -/
inductive ClassPart where
  | crate (layerLimit : Nat)
  | keg (tare ullage full charge : Nat)
  deriving DecidableEq, Repr

structure ClassEntry where
  owner : Nat
  type : Nat
  deposit : Nat
  part : ClassPart
  deriving DecidableEq, Repr

inductive Mark where
  | barred
  | inspect
  deriving DecidableEq, Repr

structure MarkEntry where
  owner : Nat
  serial : Nat
  mark : Mark
  deriving DecidableEq, Repr

structure PoolEntry where
  accepted : BitVec 64
  overrides : List Override
  deriving DecidableEq, Repr

inductive PayoutMode where
  | cash
  | credit
  | split
  deriving DecidableEq, Repr

inductive AccountState where
  | active
  | suspended
  deriving DecidableEq, Repr

structure AccountEntry where
  number : Nat
  pool : Nat
  mode : PayoutMode
  cashLimit : Nat
  tolerance : Nat
  holdAbove : Nat
  state : AccountState
  deriving DecidableEq, Repr

structure Tables where
  classes : Table ClassEntry
  marks : Table MarkEntry
  pools : Table PoolEntry
  accounts : Table AccountEntry
  deriving DecidableEq, Repr

/-! ## Sighting List (chapter 5) -/

/-- An entry of Table 5-3; `lastSeen` is a moment of elapsed time. -/
structure Sighting where
  owner : Nat
  serial : Nat
  firstLane : LaneIdx
  firstDrop : Option Nat
  lastSeen : Nat
  repeats : Nat
  deriving DecidableEq, Repr

/-! ## Settlement Store (chapter 7) -/

/-- Hold reasons, in Table 6-3 order. -/
inductive HoldReason where
  | unresolved
  | declared
  | reverse
  | long
  | gateFault
  | drainCut
  | suspended
  | overLimit
  deriving DecidableEq, Repr

/-- Record states (Table 7-2); AWAITING_CLAIM keeps the moment its claim deadline runs out (R132). -/
inductive RecordState where
  | held
  | awaiting (deadline : Nat)
  | claimed
  | dispensing
  | paid
  | credited
  | unresolved
  | void
  deriving DecidableEq, Repr

/-- A settlement record (R124, Table 7-1). -/
structure SettleRec where
  drop : DropRec
  state : RecordState
  reasons : List HoldReason
  amount : Nat
  cashPart : Nat
  creditIssued : Nat
  cashPaid : Nat
  outstanding : Nat
  unresolvedAmount : Nat
  retracts : Nat
  badChecks : Nat
  finalStamp : Option Nat
  deriving DecidableEq, Repr

/-! ## Stations (chapter 8) -/

structure Cassette where
  denomination : Nat
  count : Nat
  threshold : Nat
  armed : Bool
  deriving DecidableEq, Repr

/-- The steps of a dispense (Table 8-3), with the notes picked once reported. -/
inductive Step where
  | pick
  | present (picked : Four Nat)
  | outcome (picked : Four Nat)
  deriving DecidableEq, Repr

/-- A dispense in progress (R156); `timeout` is the moment its step timer runs out. -/
structure Dispense where
  slot : SlotIdx
  ordered : Four Nat
  value : Nat
  takePeriod : Nat
  step : Step
  timeout : Nat
  deriving DecidableEq, Repr

/-- Station states (R147): a dispense exists exactly in SERVING and CLOSING. -/
inductive StationState where
  | closed
  | opened
  | serving (d : Dispense)
  | closing (d : Dispense)
  | fault
  deriving DecidableEq, Repr

/-- Link state (R146); UP keeps the start of its silence timer. -/
inductive LinkState where
  | up (since : Nat)
  | lost
  deriving DecidableEq, Repr

/-- Answers to a claim (Table 7-4), numbered as R184 numbers them. -/
inductive Answer where
  | queued
  | unknownDrop
  | wrongStation
  | notReady
  | inProgress
  | closedOut
  | stationOut
  | badCheck
  | locked
  | queueFull
  deriving DecidableEq, Repr

/-- A frame from the part to a station (Table 10-9): ANSWER with its tries left or place and its cash, or DISPENSE. -/
inductive StationTx where
  | answer (number : Nat) (answer : Answer) (extra cash : Nat)
  | dispense (number : Nat) (notes : Four Nat) (takePeriod : Nat)
  deriving DecidableEq, Repr

structure Station where
  state : StationState
  link : LinkState
  lastFault : Nat
  cassettes : Four Cassette
  claimPeriod : Nat
  takePeriod : Nat
  retractValue : Nat
  retractNotes : Nat
  queue : List SlotIdx
  rx : Receiver
  sent : List StationTx
  deriving DecidableEq, Repr

/-! ## Notices (Table 10-1) -/

/-- Why PART_UP was posted (R182, R183). -/
inductive UpCause where
  | power
  | restart
  deriving DecidableEq, Repr

/-- Why a host frame was discarded (R175, R176). -/
inductive LinkCause where
  | check
  | length
  | overrun
  deriving DecidableEq, Repr

inductive AlertReason where
  | barred
  | full
  | inspect
  deriving DecidableEq, Repr

/-- Reasons of the CREDIT notice (R127, R129). -/
inductive CreditReason where
  | settle
  | expired
  | locked
  | forced
  | shortfall
  | retract
  deriving DecidableEq, Repr

/-- The names of a record's states without their data, as notices and replies carry them. -/
inductive RecordTag where
  | held
  | awaiting
  | claimed
  | dispensing
  | paid
  | credited
  | unresolved
  | void
  deriving DecidableEq, Repr

/-- The states a drop can be abandoned from (R119, R120). -/
inductive AbandonedFrom where
  | opened
  | draining
  | parked
  | held
  deriving DecidableEq, Repr

inductive StationTag where
  | closed
  | opened
  | serving
  | closing
  | fault
  deriving DecidableEq, Repr

/-- The steps of a dispense by name (R184). -/
inductive StepTag where
  | pick
  | present
  | outcome
  deriving DecidableEq, Repr

/-- Causes of STATION_CHANGE and UNRESOLVED (R184). -/
inductive StationCause where
  | code (n : Nat)
  | request
  | link
  | linkBack
  | timeout (step : StepTag)
  | sequence
  | overpick
  deriving DecidableEq, Repr

inductive TableName where
  | cls
  | mark
  | pool
  | account
  deriving DecidableEq, Repr

/-- The notices of Table 10-1 in kind order with the fields their rules give. -/
inductive NoticeBody where
  | partUp (cause : UpCause)
  | linkFault (cause : LinkCause) (kind tag : Byte)
  | noticesLost (number : Nat) (stamp : Stamp) (kind : Nat)
  | beamFault (lane : LaneIdx) (beams : FaultBeams) (abandoned : Nat)
  | beamClear (lane : LaneIdx)
  | headLost (lane : LaneIdx) (cause : HeadCause)
  | headBack (lane : LaneIdx)
  | accumFull (lane : LaneIdx) (capacity : Nat)
  | readDegraded (lane : LaneIdx) (bad items : Nat)
  | readRestored (lane : LaneIdx)
  | itemAlert (lane : LaneIdx) (drop seq : Nat) (code : Code) (cls : Nat) (disposition : Disposition) (reasons : List AlertReason)
  | stray (lane : LaneIdx) (seq : Nat) (cause : CaptureCause) (code : Option Code)
  | dropDone (drop : Nat) (lane : LaneIdx) (account amount items unresolved : Nat) (reasons : List HoldReason)
  | storeFull (lane : LaneIdx) (drop place : Nat)
  | dropVoid (drop : Nat) (lane : LaneIdx) (source : AbandonedFrom) (removed : Nat)
  | recordRemoved (drop : Nat) (slot : SlotIdx) (state : RecordTag) (stamp : Option Nat)
  | settled (drop : Nat) (lane : LaneIdx) (account : Nat) (station : Option Binding) (amount cash credit checkCode : Nat)
  | credit (drop account : Nat) (station : Option Binding) (sum : Nat) (reason : CreditReason) (issued : Nat) (state : RecordTag)
  | payout (drop account : Nat) (station : StationId) (cash : Nat) (notes denominations : Four Nat) (credit : Nat)
  | unresolved (drop account : Nat) (station : StationId) (amount : Nat) (notes : Option (Four Nat)) (step : StepTag)
      (cause : StationCause)
  | stationChange (station : StationId) (state : StationTag) (up : Bool) (cause : StationCause)
  | cassetteLow (station : StationId) (cassette denomination count : Nat)
  | journalHalf (lane : LaneIdx) (unread newest : Nat)
  | journalWrap (lane : LaneIdx) (mark newest : Nat)
  | tableFault (table : TableName) (index : Nat)
  deriving DecidableEq, Repr

structure Notice where
  number : Nat
  stamp : Stamp
  body : NoticeBody
  deriving DecidableEq, Repr

/-! ## Replies -/

/-- Reply statuses, numbered as R184 numbers them. -/
inductive Status where
  | ok
  | state
  | full
  | range
  | absent
  | duplicate
  | inUse
  | unknown
  deriving DecidableEq, Repr

/-- The condition of a table entry that a get request reports (R58). -/
inductive Report (α : Type) where
  | usable (contents : α)
  | unusable
  deriving DecidableEq, Repr

/-- A LANE.GET reply (R42): the gate as R16 states, Identity Capture as R34 states. -/
structure LaneView where
  state : LaneState
  drop : Option Nat
  cfg : LaneConfig
  gate : Nat
  faultBeams : Option FaultBeams
  blockedA : Bool
  blockedB : Bool
  head : Nat
  lastFault : Nat
  measure : Option (Measurement × Nat)
  early : Option Code
  windowCode : Option CodeState
  graceRuns : Bool
  waits : Bool
  occupancy : Nat
  peak : Nat
  latch : Bool
  pacing : Pacing
  degraded : Bool
  windowItems : Nat
  windowBad : Nat
  rejects : Nat
  newestReject : Option Nat
  deriving DecidableEq, Repr

/-- The state of a drop or record as the drop summary numbers it (Table 10-5). -/
inductive DropTag where
  | opened
  | draining
  | parked
  | record (tag : RecordTag)
  deriving DecidableEq, Repr

/-- A drop summary (Table 10-5). -/
structure DropView where
  record : DropRec
  tag : DropTag
  amount : Nat
  classified : Nat
  sinceClose : Option Nat
  toQuiet : Option Nat
  place : Nat
  deriving DecidableEq, Repr

/-- A record summary (Table 10-6). -/
structure RecordView where
  slot : SlotIdx
  number : Nat
  tag : RecordTag
  reasons : List HoldReason
  amount : Nat
  cashPart : Nat
  creditIssued : Nat
  cashPaid : Nat
  outstanding : Nat
  unresolvedAmount : Nat
  deadline : Option Nat
  queuePlace : Nat
  finalStamp : Option Nat
  finalPlace : Nat
  retracts : Nat
  badChecks : Nat
  deriving DecidableEq, Repr

/-- A dispense as STATION.GET reports it (R151). -/
structure DispenseView where
  number : Nat
  ordered : Four Nat
  value : Nat
  step : StepTag
  picked : Option (Four Nat)
  timeLeft : Nat
  deriving DecidableEq, Repr

structure StationView where
  state : StationTag
  up : Bool
  lastFault : Nat
  cassettes : Four Cassette
  claimPeriod : Nat
  takePeriod : Nat
  retractValue : Nat
  retractNotes : Nat
  queue : List Nat
  dispense : Option DispenseView
  deriving DecidableEq, Repr

/-- A PART.PING reply (R181). -/
structure PingView where
  lanes : List LaneState
  stations : List (StationTag × Bool)
  clock : Nat
  notices : Nat
  latch : Bool
  waiting : Nat
  deriving DecidableEq, Repr

/-- A SIGHT.FIND entry (R92). -/
structure SightView where
  owner : Nat
  serial : Nat
  firstLane : LaneIdx
  firstDrop : Option Nat
  elapsed : Nat
  repeats : Nat
  place : Nat
  deriving DecidableEq, Repr

/-- What follows the kind and status of a reply: the results, or the counts a refusal's rule names. -/
inductive Result where
  | none
  | ping (view : PingView)
  | clock (was : Nat)
  | filter (groups : Byte)
  | yard (counters : YardCounters)
  | lane (view : LaneView)
  | journal (entries : List JournalEntry) (oldest newest mark unread : Nat)
  | counters (values : LaneCounters)
  | count (n : Nat)
  | slot (n : Nat)
  | classEntry (entry : Option (Report ClassEntry)) (occupied : Nat)
  | markEntry (entry : Option (Nat × Report MarkEntry)) (occupied : Nat)
  | poolEntry (entry : Report PoolEntry)
  | accountEntry (entry : Option (Nat × Report AccountEntry)) (occupied : Nat)
  | period (seconds : Nat)
  | sight (entry : Option SightView) (size : Nat) (oldest : Option Nat)
  | opened (number checkCode : Nat)
  | resolved (amount unresolved lines : Nat)
  | approved (amount : Nat) (state : RecordTag)
  | dropSummary (drop : DropView) (record : Option RecordView)
  | dropLines (number lineCount first : Nat) (lines : List Line)
  | credited (sum issued : Nat)
  | record (entry : Option (RecordView × DropView)) (records finals parked : Nat)
  | tally (returned : Option (Nat × Nat))
  | station (view : StationView)
  deriving DecidableEq, Repr

/-- A reply frame (R176, R184): the request's tag and kind, the status, and what follows. -/
structure Reply where
  kind : Byte
  tag : Byte
  status : Status
  result : Result
  deriving DecidableEq, Repr

/-- A frame on HOST_TX (R177). -/
inductive TxFrame where
  | reply (r : Reply)
  | notice (n : Notice)
  deriving DecidableEq, Repr

/-- The Host Link (chapter 10). -/
structure HostLink where
  rx : Receiver
  reqBuf : List Frame
  reply : Option Reply
  tx : Option TxFrame
  notices : List Notice
  latch : Bool
  nextNotice : Nat
  filter : Byte
  clock : Nat
  clockBase : Nat
  deriving DecidableEq, Repr

end Sys2Proof.Machine

namespace Sys2Proof.Machine

/-- The whole part, and the queue of commands that wait. -/
structure State where
  rstHeld : Bool
  now : Nat
  host : HostLink
  yard : YardCounters
  lanes : Vector Lane 6
  tables : Tables
  holdPeriod : Nat
  sightings : List Sighting
  lastDrop : Nat
  checkPos : Nat
  parkOrder : List LaneIdx
  store : List (SlotIdx × SettleRec)
  finalOrder : List SlotIdx
  stationA : Station
  stationB : Station
  choices : Nat
  pending : List Instr
  deriving DecidableEq, Repr

/-- Reasons to stop the machine. The spec gives every command an effect and names nothing that stops the part, so there is
none: no command raises a fault. -/
inductive Fault where
  deriving DecidableEq, Repr

/-- Reasons to refuse a command.
`notModelled` is raised by an arm of `exec` for a row that has no meaning yet; no arm raises it now. It is safe: the model
stops where the part goes on. -/
inductive Refusal where
  | notModelled (mnemonic : String)
  deriving DecidableEq, Repr

/-! ## Power-on values -/

/-- The defaults of Table 3-2. -/
def LaneConfig.default : LaneConfig :=
  { kind := .crate, binding := .none, capacity := 16, longLimit := 2500, stuckLimit := 20, earlyHold := 300, lateGrace := 150,
    measureAge := 400, rejectWindow := 8000, drainQuiet := 3000, drainLimit := 60, readWindow := 32, declareCount := 8,
    clearRun := 16 }

/-- A debouncer at power-on: the settled level is low, and a line that is high starts its hold (R1, R43, R55; log 9). -/
def Debouncer.powerOn (line : Bool) (now : Nat) : Debouncer :=
  { line := line, settled := false, hold := if line then some now else none }

def Counter.zero : Counter := { value := 0, overflow := false }

def LaneCounters.zero : LaneCounters :=
  { forward := .zero, reverse := .zero, bounces := .zero, glitches := .zero, longItems := .zero, abandoned := .zero,
    paired := .zero, unread := .zero, multiCode := .zero, strayReads := .zero, strayItems := .zero, rejectsApplied := .zero,
    lateRejects := .zero, overflows := .zero, phantoms := .zero }

def YardCounters.zero : YardCounters :=
  { evicted := 0, aged := 0, tableFaults := 0, unknownDrop := 0, wrongStation := 0, notReady := 0, inProgress := 0,
    closedOut := 0, stationOut := 0, badCheck := 0, locked := 0, queueFull := 0, framesRejected := 0, noticesDiscarded := 0 }

/-- An empty journal (Table 9-5). -/
def Journal.empty : Journal := { entries := [], nextSeq := 1, readMark := 0, halfArmed := true, wrapArmed := true }

/-- A lane at power-on with the levels of its four lines (R18, R36, R40, R48, R53, R54, R174). It holds no A-blocking time, as after a lane
reset: the model's choice (log 30). -/
def Lane.powerOn (a b takeoff reject : Bool) : Lane :=
  { inService := false, cfg := .default, beamA := .powerOn a 0, beamB := .powerOn b 0, takeoff := .powerOn takeoff 0,
    reject := .powerOn reject 0, gate := .reset, stuckA := none, stuckB := none, lastABlock := none, head := .off,
    lastFault := 0, measure := none, early := none, grace := none, waiting := none, headRx := .hunting, occupancy := 0,
    peak := 0, latch := false, window := [], degraded := false, rejects := [], pacing := .stop, journal := .empty,
    counters := .zero, drop := none }

/-- A cassette at power-on (R164). -/
def Cassette.unused : Cassette := { denomination := 0, count := 0, threshold := 0, armed := true }

/-- A station at power-on (R164). -/
def Station.powerOn : Station :=
  { state := .closed, link := .lost, lastFault := 0, cassettes := .const .unused, claimPeriod := 1800, takePeriod := 30,
    retractValue := 0, retractNotes := 0, queue := [], rx := .hunting, sent := [] }

/-- The Host Link when a reset has ended and PART_UP (POWER), notice number 1, has begun to be sent (R183, R177). -/
def HostLink.powerOn : HostLink :=
  { rx := .hunting, reqBuf := [], reply := none, tx := some (.notice ⟨1, ⟨0, 0⟩, .partUp .power⟩), notices := [],
    latch := false, nextNotice := 2, filter := 0xFF, clock := 0, clockBase := 0 }

/-- The part right after a power-on reset with these lanes, count of choices made and waiting commands. -/
def State.powerOn (lanes : Vector Lane 6) (choices : Nat) (pending : List Instr) : State :=
  { rstHeld := false, now := 0, host := .powerOn, yard := .zero, lanes := lanes,
    tables := { classes := [], marks := [], pools := [], accounts := [] }, holdPeriod := 14400, sightings := [],
    lastDrop := 0, checkPos := 0, parkOrder := [], store := [], finalOrder := [], stationA := .powerOn, stationB := .powerOn,
    choices := choices, pending := pending }

/-- The machine right after reset: every line low (log 9), no command waiting. -/
def State.reset : State := State.powerOn (Vector.replicate 6 (Lane.powerOn false false false false)) 0 []

end Sys2Proof.Machine
end

