-- ==== Sys2Proof/Machine/Flags.lean ====
section
/-! DEFINITION. What follows from a lane's or drop's state alone: the pacing output, the accumulation thresholds, the read-quality
tests, counters that wrap, tallies that saturate. -/

namespace Sys2Proof.Machine

/-- The margin of a capacity (Table 3-3). -/
def margin (capacity : Nat) : Nat := if capacity = 8 then 2 else if capacity = 16 then 4 else 6

/-- Occupancy at or above which pacing is SLOW (Table 3-3). -/
def slowAt (capacity : Nat) : Nat := capacity - margin capacity

/-- Occupancy at or below which the overflow latch is released (R46). -/
def releaseAt (capacity : Nat) : Nat := capacity - 2 * margin capacity

/-- The beam-fault status of R16. -/
def Gate.beamFault : Gate → Option FaultBeams
  | .fault beams _ => some beams
  | _ => none

/-- The state of a lane (R37). -/
def Lane.state (l : Lane) : LaneState :=
  if l.inService then
    match l.drop with
    | none => .idle
    | some d =>
      match d.state with
      | .opened => .opened
      | .draining _ => .draining
      | .parked => .parked
  else .off

/-- The lane counts items into its drop: OPEN or DRAINING (R99). -/
def Lane.counting (l : Lane) : Bool :=
  match l.state with
  | .opened => true
  | .draining => true
  | _ => false

/-- The pacing output as the first case of R49 that applies. -/
def Lane.pacingDue (l : Lane) : Pacing :=
  if l.counting then
    if l.latch || l.gate.beamFault.isSome then .stop
    else if decide (slowAt l.cfg.capacity ≤ l.occupancy) || l.degraded || decide (l.head = .lost) then .slow
    else .run
  else .stop

/-- The level of the line PACE1, high or not (Table 3-4). -/
def Pacing.pace1 : Pacing → Bool
  | .stop => false
  | .slow => false
  | .run => true

/-- The level of the line PACE0, high or not (Table 3-4). -/
def Pacing.pace0 : Pacing → Bool
  | .stop => false
  | .slow => true
  | .run => true

/-- The levels a lane drives on its two pacing lines, PACE1 and PACE0 (R49). -/
def Lane.paceLines (l : Lane) : Bool × Bool := (l.pacing.pace1, l.pacing.pace0)

/-- A lane with its pacing output brought up to date (R49). -/
def Lane.repace (l : Lane) : Lane := { l with pacing := l.pacingDue }

/-- The number of bad judgements in a read-quality window. -/
def badCount (window : List Bool) : Nat := (window.filter id).length

/-- The window after a judgement joins (R50): at most `w`, the oldest leaving. -/
def joinWindow (w : Nat) (window : List Bool) (bad : Bool) : List Bool :=
  (if w ≤ window.length then window.drop (window.length + 1 - w) else window) ++ [bad]

/-- The newest `n` judgements are all good, and there are that many (R52). -/
def clearRunMet (n : Nat) (window : List Bool) : Bool :=
  decide (n ≤ window.length) && (window.drop (window.length - n)).all not

/-- A lane counter raised by 1 (R171). -/
def Counter.raise (c : Counter) : Counter :=
  if c.value = Config.laneCounterMax then { value := 0, overflow := true } else { c with value := c.value + 1 }

/-- A yard counter raised by 1 (R173). -/
def raise32 (n : Nat) : Nat := if n = Config.word32Max then 0 else n + 1

/-- An event tally raised by 1, staying at 65,535 (R99). -/
def raiseTally (n : Nat) : Nat := if n < Config.tallyMax then n + 1 else n

/-- The names of the fifteen values of Table 9-3. -/
inductive LaneCtr where
  | forward
  | reverse
  | bounces
  | glitches
  | longItems
  | abandoned
  | paired
  | unread
  | multiCode
  | strayReads
  | strayItems
  | rejectsApplied
  | lateRejects
  | overflows
  | phantoms
  deriving DecidableEq, Repr

/-- Raise one value. -/
def LaneCounters.raise (c : LaneCounters) : LaneCtr → LaneCounters
  | .forward => { c with forward := c.forward.raise }
  | .reverse => { c with reverse := c.reverse.raise }
  | .bounces => { c with bounces := c.bounces.raise }
  | .glitches => { c with glitches := c.glitches.raise }
  | .longItems => { c with longItems := c.longItems.raise }
  | .abandoned => { c with abandoned := c.abandoned.raise }
  | .paired => { c with paired := c.paired.raise }
  | .unread => { c with unread := c.unread.raise }
  | .multiCode => { c with multiCode := c.multiCode.raise }
  | .strayReads => { c with strayReads := c.strayReads.raise }
  | .strayItems => { c with strayItems := c.strayItems.raise }
  | .rejectsApplied => { c with rejectsApplied := c.rejectsApplied.raise }
  | .lateRejects => { c with lateRejects := c.lateRejects.raise }
  | .overflows => { c with overflows := c.overflows.raise }
  | .phantoms => { c with phantoms := c.phantoms.raise }

/-- The names of the fourteen yard counters of Table 9-4; a refused claim has one for each answer. -/
inductive YardCtr where
  | evicted
  | aged
  | tableFaults
  | refused (a : Answer)
  | framesRejected
  | noticesDiscarded
  deriving DecidableEq, Repr

/-- Raise one yard counter; QUEUED is no refusal and has none (R137). -/
def YardCounters.raise (y : YardCounters) : YardCtr → YardCounters
  | .evicted => { y with evicted := raise32 y.evicted }
  | .aged => { y with aged := raise32 y.aged }
  | .tableFaults => { y with tableFaults := raise32 y.tableFaults }
  | .refused .queued => y
  | .refused .unknownDrop => { y with unknownDrop := raise32 y.unknownDrop }
  | .refused .wrongStation => { y with wrongStation := raise32 y.wrongStation }
  | .refused .notReady => { y with notReady := raise32 y.notReady }
  | .refused .inProgress => { y with inProgress := raise32 y.inProgress }
  | .refused .closedOut => { y with closedOut := raise32 y.closedOut }
  | .refused .stationOut => { y with stationOut := raise32 y.stationOut }
  | .refused .badCheck => { y with badCheck := raise32 y.badCheck }
  | .refused .locked => { y with locked := raise32 y.locked }
  | .refused .queueFull => { y with queueFull := raise32 y.queueFull }
  | .framesRejected => { y with framesRejected := raise32 y.framesRejected }
  | .noticesDiscarded => { y with noticesDiscarded := raise32 y.noticesDiscarded }

/-! ## Parts of an item's capture -/

def Capture.cause : Capture → CaptureCause
  | .ok _ _ => .ok
  | .unread _ => .unread
  | .multiCode _ => .multiCode
  | .noMeasure _ => .noMeasure

def Capture.code : Capture → Option Code
  | .ok c _ => some c
  | .unread _ => none
  | .multiCode _ => none
  | .noMeasure c => some c

def Capture.measurement : Capture → Option Measurement
  | .ok _ m => some m
  | .unread m => m
  | .multiCode m => m
  | .noMeasure _ => none

/-- The judgement of the read-quality monitor (R50): bad for UNREAD and MULTI_CODE. -/
def CaptureCause.bad : CaptureCause → Bool
  | .ok => false
  | .unread => true
  | .multiCode => true
  | .noMeasure => false

/-! ## Sums over a drop -/

/-- The amount of a list of lines (R98). -/
def linesAmount (lines : List Line) : Nat := (lines.map (fun l => l.units * l.value)).sum

/-- The items on a list of lines. -/
def linesItems (lines : List Line) : Nat := (lines.map Line.items).sum

def Unresolved.zero : Unresolved := ⟨⟨0, 0⟩, ⟨0, 0⟩, ⟨0, 0⟩, ⟨0, 0⟩, ⟨0, 0⟩, ⟨0, 0⟩⟩

def Unresolved.get (u : Unresolved) : Cause → Tally
  | .unread => u.unread
  | .multiCode => u.multiCode
  | .noMeasure => u.noMeasure
  | .unknownCode => u.unknownCode
  | .wrongLane => u.wrongLane
  | .linesFull => u.linesFull

def Unresolved.set (u : Unresolved) (c : Cause) (t : Tally) : Unresolved :=
  match c with
  | .unread => { u with unread := t }
  | .multiCode => { u with multiCode := t }
  | .noMeasure => { u with noMeasure := t }
  | .unknownCode => { u with unknownCode := t }
  | .wrongLane => { u with wrongLane := t }
  | .linesFull => { u with linesFull := t }

/-- The six tallies in Table 6-1 order. -/
def Unresolved.toList (u : Unresolved) : List Tally :=
  [u.unread, u.multiCode, u.noMeasure, u.unknownCode, u.wrongLane, u.linesFull]

def Unresolved.items (u : Unresolved) : Nat := (u.toList.map Tally.items).sum

def Unresolved.units (u : Unresolved) : Nat := (u.toList.map Tally.units).sum

/-- The number of items classified into a drop: line items and unresolved items (R121). -/
def DropRec.classified (d : DropRec) : Nat := linesItems d.lines + d.unresolved.items

/-- The amount of a lane drop (R98). -/
def DropRec.amount (d : DropRec) : Nat := linesAmount d.lines

/-! ## Records and stations by name -/

def RecordState.tag : RecordState → RecordTag
  | .held => .held
  | .awaiting _ => .awaiting
  | .claimed => .claimed
  | .dispensing => .dispensing
  | .paid => .paid
  | .credited => .credited
  | .unresolved => .unresolved
  | .void => .void

/-- PAID, CREDITED, UNRESOLVED and VOID are final (R125). -/
def RecordTag.final : RecordTag → Bool
  | .paid => true
  | .credited => true
  | .unresolved => true
  | .void => true
  | _ => false

def SettleRec.final (r : SettleRec) : Bool := r.state.tag.final

def StationState.tag : StationState → StationTag
  | .closed => .closed
  | .opened => .opened
  | .serving _ => .serving
  | .closing _ => .closing
  | .fault => .fault

/-- The dispense in progress (R147). -/
def StationState.dispense : StationState → Option Dispense
  | .serving d => some d
  | .closing d => some d
  | _ => none

def LinkState.isUp : LinkState → Bool
  | .up _ => true
  | .lost => false

def Step.tag : Step → StepTag
  | .pick => .pick
  | .present _ => .present
  | .outcome _ => .outcome

/-- The notes picked, once reported. -/
def Step.picked : Step → Option (Four Nat)
  | .pick => none
  | .present n => some n
  | .outcome n => some n

/-- The station a binding names, if any. -/
def Binding.station : Binding → Option StationId
  | .a => Option.some .a
  | .b => Option.some .b
  | .none => Option.none

end Sys2Proof.Machine
end

