-- ==== Sys2Proof/Machine/Ops.lean ====
section
/-! DEFINITION. The named operations over the state that every block uses: lanes, stations and sparse tables; the stamp; posting
a notice; writing a journal entry; raising a counter; the transmitter; how an event and how a request is taken. -/

namespace Sys2Proof.Machine

/-- What a command answers. -/
abbrev Outcome := Host.Outcome State Fault Refusal

/-! ## Sparse families by index -/

/-- The entry at an index. -/
def assocGet {α : Type} : List (Nat × α) → Nat → Option α
  | [], _ => none
  | (k', v) :: rest, k => if k = k' then some v else assocGet rest k

/-- Write the entry at an index, keeping the indices rising. -/
def assocSet {α : Type} : List (Nat × α) → Nat → α → List (Nat × α)
  | [], k, v => [(k, v)]
  | (k', v') :: rest, k, v =>
    if k < k' then (k, v) :: (k', v') :: rest
    else if k = k' then (k, v) :: rest
    else (k', v') :: assocSet rest k v

/-- Remove the entry at an index. -/
def assocErase {α : Type} : List (Nat × α) → Nat → List (Nat × α)
  | [], _ => []
  | (k', v') :: rest, k => if k = k' then rest else (k', v') :: assocErase rest k

/-- The lowest index below `n` with no entry. -/
def lowestFree {α : Type} (n : Nat) (t : List (Nat × α)) : Option Nat :=
  (List.range n).find? (fun k => (assocGet t k).isNone)

/-! ## Lanes and stations -/

def State.lane (s : State) (i : LaneIdx) : Lane := s.lanes.get i

def State.setLane (s : State) (i : LaneIdx) (l : Lane) : State := { s with lanes := s.lanes.set i l }

def State.modLane (s : State) (i : LaneIdx) (f : Lane → Lane) : State := s.setLane i (f (s.lane i))

def State.station (s : State) : StationId → Station
  | .a => s.stationA
  | .b => s.stationB

def State.setStation (s : State) (x : StationId) (t : Station) : State :=
  match x with
  | .a => { s with stationA := t }
  | .b => { s with stationB := t }

def State.modStation (s : State) (x : StationId) (f : Station → Station) : State := s.setStation x (f (s.station x))

/-- The lanes in order. -/
def allLanes : List LaneIdx := [0, 1, 2, 3, 4, 5]

/-! ## Counters -/

def State.count (s : State) (i : LaneIdx) (c : LaneCtr) : State :=
  s.modLane i (fun l => { l with counters := l.counters.raise c })

def State.countYard (s : State) (c : YardCtr) : State := { s with yard := s.yard.raise c }

/-! ## The stamp (R166) -/

/-- The yard clock and the milliseconds since it last stepped. At the very moment of a step not yet taken the offset is held at
999, the top of its range (log 22). -/
def State.stamp (s : State) : Stamp :=
  { clock := s.host.clock, ms := min (s.now - s.host.clockBase) 999 }

/-! ## Receivers -/

/-- 20 ms have passed since the last byte of a frame being assembled (R175, R186). -/
def Receiver.gapReached (r : Receiver) (now : Nat) : Bool :=
  match r with
  | .hunting => false
  | .assembling _ last => decide (last + Config.byteGapMs ≤ now)

/-! ## Notices (R178, R179) -/

/-- The kind number of a notice (Table 10-1). -/
def NoticeBody.kind : NoticeBody → Nat
  | .partUp _ => 1
  | .linkFault _ _ _ => 2
  | .noticesLost _ _ _ => 3
  | .beamFault _ _ _ => 4
  | .beamClear _ => 5
  | .headLost _ _ => 6
  | .headBack _ => 7
  | .accumFull _ _ => 8
  | .readDegraded _ _ _ => 9
  | .readRestored _ => 10
  | .itemAlert _ _ _ _ _ _ _ => 11
  | .stray _ _ _ _ => 12
  | .dropDone _ _ _ _ _ _ _ => 13
  | .storeFull _ _ _ => 14
  | .dropVoid _ _ _ _ => 15
  | .recordRemoved _ _ _ _ => 16
  | .settled _ _ _ _ _ _ _ _ => 17
  | .credit _ _ _ _ _ _ _ => 18
  | .payout _ _ _ _ _ _ _ => 19
  | .unresolved _ _ _ _ _ _ _ => 20
  | .stationChange _ _ _ _ => 21
  | .cassetteLow _ _ _ _ => 22
  | .journalHalf _ _ _ => 23
  | .journalWrap _ _ _ => 24
  | .tableFault _ _ => 25

/-- The group number of a notice (Table 10-1): PART 0, LANE 1, ITEM 2, DROP 3, MONEY 4, STATION 5, JOURNAL 6, TABLE 7. -/
def NoticeBody.group (b : NoticeBody) : Nat :=
  let k := b.kind
  if k ≤ 3 then 0 else if k ≤ 10 then 1 else if k ≤ 12 then 2 else if k ≤ 16 then 3 else if k ≤ 20 then 4
  else if k ≤ 22 then 5 else if k ≤ 24 then 6 else 7

/-- The next notice number after one (R178). -/
def nextNumber (n : Nat) : Nat := (n + 1) % 65536

/-- A notice meets the queue (R178): the group is enabled and it has its number and stamp. -/
def State.enqueue (s : State) (b : NoticeBody) : State :=
  let n := s.host.nextNotice
  let s1 := { s with host := { s.host with nextNotice := nextNumber n } }
  if s.host.latch then s1.countYard .noticesDiscarded
  else if s.host.notices.length < Config.noticeQueue - 1 then
    { s1 with host := { s1.host with notices := s1.host.notices ++ [⟨n, s.stamp, b⟩] } }
  else
    let s2 := s1.countYard .noticesDiscarded
    { s2 with host := { s2.host with
        nextNotice := nextNumber (nextNumber n), latch := true,
        notices := s2.host.notices ++ [⟨nextNumber n, s.stamp, .noticesLost n s.stamp b.kind⟩] } }

/-- Post a notice (R178): one of a disabled group takes no number and is not queued. -/
def State.post (s : State) (b : NoticeBody) : State :=
  if s.host.filter.getLsbD b.group then s.enqueue b else s

/-- Post notices in order. -/
def State.postAll (s : State) (bs : List NoticeBody) : State := bs.foldl State.post s

/-! ## The journal (R165, R168, R169) -/

/-- The sequence number after one (R165); past 2^48 - 1 the manual states none, and it is some number of 1 to 2^48 - 1 (log 12). -/
def nextSequence (n : Nat) : Nat := Config.fitFrom .journalSequence 1 Config.sequenceMax (n + 1)

/-- The newest sequence number of a journal, 0 when it is empty. -/
def Journal.newest (j : Journal) : Nat :=
  match j.entries.getLast? with
  | some e => e.seq
  | none => 0

/-- The oldest sequence number of a journal, 0 when it is empty. -/
def Journal.oldest (j : Journal) : Nat :=
  match j.entries.head? with
  | some e => e.seq
  | none => 0

/-- The number of unread entries (R168). -/
def Journal.unread (j : Journal) : Nat := if j.entries.isEmpty then 0 else j.newest - j.readMark

/-- A write would overwrite an unread entry (R168). -/
def Journal.wraps (j : Journal) : Bool :=
  decide (Config.journalSize ≤ j.entries.length) && decide (j.readMark < j.oldest)

/-- The journal after an entry is written, before its alarms are tested. -/
def Journal.append (j : Journal) (stamp : Stamp) (body : JournalBody) : Journal :=
  { j with
    entries := (if Config.journalSize ≤ j.entries.length then j.entries.drop (j.entries.length + 1 - Config.journalSize) else j.entries) ++
      [⟨j.nextSeq, stamp, body⟩]
    nextSeq := nextSequence j.nextSeq
    readMark := if j.wraps then j.oldest else j.readMark }

/-- The notices a write makes due and the alarms after it: JOURNAL_WRAP before JOURNAL_HALF (R169). -/
def Journal.write (j : Journal) (lane : LaneIdx) (stamp : Stamp) (body : JournalBody) : Journal × List NoticeBody :=
  let j1 := j.append stamp body
  let wrap := j.wraps && j.wrapArmed
  let half := decide (128 ≤ j1.unread) && j1.halfArmed
  ({ j1 with wrapArmed := j1.wrapArmed && !wrap, halfArmed := j1.halfArmed && !half },
   (if wrap then [.journalWrap lane j1.readMark j1.newest] else []) ++
   (if half then [.journalHalf lane j1.unread j1.newest] else []))

/-- Write a journal entry of a lane. Its sequence number is the lane's `nextSeq` before the write. -/
def State.journalWrite (s : State) (i : LaneIdx) (body : JournalBody) : State :=
  let w := (s.lane i).journal.write i s.stamp body
  (s.modLane i (fun l => { l with journal := w.1 })).postAll w.2

/-- The sequence number the lane's next entry will take. -/
def State.seqNext (s : State) (i : LaneIdx) : Nat := (s.lane i).journal.nextSeq

/-! ## The transmitter (R177) -/

/-- A free transmitter begins the waiting reply, or else the oldest notice. -/
def State.startTx (s : State) : State :=
  match s.host.tx with
  | some _ => s
  | none =>
    match s.host.reply with
    | some r => { s with host := { s.host with tx := some (.reply r), reply := none } }
    | none =>
      match s.host.notices with
      | [] => s
      | n :: rest =>
        { s with host := { s.host with
            tx := some (.notice n), notices := rest,
            latch := s.host.latch && decide (Config.noticeQueue - 1 ≤ rest.length) } }

/-- Bring the pacing outputs up to date (R49). -/
def State.repace (s : State) : State := { s with lanes := s.lanes.map Lane.repace }

/-- What ends every event: pacing follows its inputs, and a free transmitter begins a frame. -/
def finish (s : State) : State := s.repace.startTx

/-- An event of the part: while RST is held nothing is taken (R183, log 8). -/
def event (f : State → State) (s : State) : Outcome :=
  if s.rstHeld then .next s else .next (finish (f s))

/-! ## Requests (R176) -/

/-- A host frame is discarded: counted and reported (R175, R176). -/
def State.linkFault (s : State) (cause : LinkCause) (kind tag : Byte) : State :=
  (s.countYard .framesRejected).post (.linkFault cause kind tag)

/-- A request joins the buffer, or is discarded as OVERRUN (R176). -/
def State.bufferRequest (s : State) (f : Frame) : State :=
  if s.host.reqBuf.length < Config.requestBuffer then
    { s with host := { s.host with reqBuf := s.host.reqBuf ++ [f] } }
  else s.linkFault .overrun f.kind f.tag

/-- A reply is waiting or being transmitted: no request is taken (R176). -/
def State.replyOut (s : State) : Bool :=
  s.host.reply.isSome ||
    match s.host.tx with
    | some (.reply _) => true
    | _ => false

/-- What a block answers to a request. -/
structure Answered where
  state : State
  status : Status
  result : Result

/-- A refusal that carries nothing. -/
def refuse (s : State) (status : Status) : Answered := ⟨s, status, .none⟩

/-- The reply is formed and waits for the transmitter (R176). -/
def Answered.reply (a : Answered) (f : Frame) : State :=
  { a.state with host := { a.state.host with reply := some ⟨f.kind, f.tag, a.status, a.result⟩ } }

/-- A request's one event (R176): its block acts, its reply is formed, and `after` follows the reply of a request that was taken. -/
def takeRequest (f : Frame) (act : State → Answered) (after : State → State) (s : State) : State :=
  let a := act s
  if a.status = .ok then after (a.reply f) else a.reply f

/-- A request command (R176): it leaves the buffer if it heads it, and is taken. A request that cannot be taken yet, because a reply is
out or others wait before it, joins the buffer as its frame (log 4). -/
def request (c : Instr) (act : State → Answered) (after : State → State) (s : State) : Outcome :=
  if s.rstHeld then .next s
  else
    match encodeRequest c with
    | none => .next s
    | some f =>
      if s.replyOut then .next (finish (s.bufferRequest f))
      else
        match s.host.reqBuf with
        | [] => .next (finish (takeRequest f act after s))
        | g :: rest =>
          if parseRequest g = some c then
            .next (finish (takeRequest f act after { s with host := { s.host with reqBuf := rest } }))
          else .next (finish (s.bufferRequest f))

end Sys2Proof.Machine
end

