-- ==== Sys2Proof/Machine/LaneOps.lean ====
section
/-! DEFINITION. Lane Control's shared operations: debouncers (R1, R43, R55), accumulation and its latch (R44 to R46), the
read-quality monitor (R50 to R52), the reject list and the press (R54 to R56), and the tallies of a lane's drop (R99). -/

namespace Sys2Proof.Machine

/-! ## Debouncers -/

/-- A change of the raw line: a level other than the settled one starts the hold, a return cancels it (R1). -/
def Debouncer.lineChange (d : Debouncer) (high : Bool) (now : Nat) : Debouncer :=
  { d with line := high, hold := if high = d.settled then none else if high = d.line then d.hold else some now }

/-- The raw line moves while RST is held: the part takes nothing (log 8). -/
def Debouncer.lineOnly (d : Debouncer) (high : Bool) : Debouncer := { d with line := high }

/-- A hold of `ms` has run. -/
def Debouncer.ran (d : Debouncer) (ms now : Nat) : Bool :=
  match d.hold with
  | some t => decide (t + ms ≤ now)
  | none => false

/-- The hold ends and the settled level changes. -/
def Debouncer.settle (d : Debouncer) : Debouncer := { d with settled := !d.settled, hold := none }

/-! ## The lane's drop -/

/-- The record of a lane's drop while it is OPEN or DRAINING (R99). -/
def Lane.countingDrop (l : Lane) : Option DropRec := if l.counting then l.drop.map LaneDrop.record else none

/-- Change the record of a lane's drop. -/
def Lane.modDrop (l : Lane) (f : DropRec → DropRec) : Lane :=
  { l with drop := l.drop.map (fun d => { d with record := f d.record }) }

/-- Change the record of an OPEN or DRAINING drop; any other lane is left as it is (R99). -/
def State.modCounting (s : State) (i : LaneIdx) (f : DropRec → DropRec) : State :=
  s.modLane i (fun l => if l.counting then l.modDrop f else l)

/-! ## Accumulation -/

/-- A handover is counted into accumulation (R44). -/
def State.accumulate (s : State) (i : LaneIdx) : State :=
  let l := s.lane i
  if l.occupancy < l.cfg.capacity then
    s.modLane i (fun l => { l with occupancy := l.occupancy + 1, peak := max l.peak (l.occupancy + 1) })
  else
    let s1 := (s.count i .overflows).modLane i (fun l => { l with latch := true })
    if l.latch then s1 else s1.post (.accumFull i l.cfg.capacity)

/-- The release of the overflow latch is tested (R46). -/
def Lane.testLatch (l : Lane) : Lane := { l with latch := l.latch && decide (releaseAt l.cfg.capacity < l.occupancy) }

/-- An item leaves accumulation: a take-off pulse, or a reverse transit (R45). -/
def State.leaveAccumulation (s : State) (i : LaneIdx) : State :=
  s.modLane i (fun l => { l with occupancy := l.occupancy - 1 }.testLatch)

/-- A take-off pulse is taken (R45). -/
def State.takeOff (s : State) (i : LaneIdx) : State :=
  (if (s.lane i).occupancy = 0 then s.count i .phantoms else s).leaveAccumulation i

/-! ## The read-quality monitor -/

/-- An item joins the window and the read state is tested (R50, R51, R52). -/
def State.joinWindow (s : State) (i : LaneIdx) (bad : Bool) : State :=
  let s1 := s.modLane i (fun l => { l with window := Sys2Proof.Machine.joinWindow l.cfg.readWindow l.window bad })
  let l := s1.lane i
  let b := badCount l.window
  if bad && !l.degraded && decide (l.cfg.declareCount ≤ b) then
    ((s1.modLane i (fun l => { l with degraded := true })).journalWrite i (.fault (.readDegraded b l.window.length))).post
      (.readDegraded i b l.window.length)
  else if !bad && l.degraded && clearRunMet l.cfg.clearRun l.window then
    ((s1.modLane i (fun l => { l with degraded := false })).journalWrite i (.fault .readRestored)).post (.readRestored i)
  else s1

/-! ## Lines of a drop (R86) -/

/-- The line with a key. -/
def lineOf (lines : List Line) (cls : Option Nat) (d : Disposition) (value : Nat) : Option Line :=
  lines.find? (fun l => decide (l.cls = cls) && decide (l.disposition = d) && decide (l.value = value))

/-- Add items and units to the line with a key, created at the end of the list when there is none. -/
def addToLine : List Line → Option Nat → Disposition → Nat → Nat → Nat → List Line
  | [], cls, d, value, items, units => [⟨cls, d, value, items, units⟩]
  | l :: rest, cls, d, value, items, units =>
    if l.cls = cls ∧ l.disposition = d ∧ l.value = value then
      { l with items := l.items + items, units := l.units + units } :: rest
    else l :: addToLine rest cls d value items units

/-- Take items and units from the line with a key; the line keeps its place. -/
def takeFromLine : List Line → Option Nat → Disposition → Nat → Nat → Nat → List Line
  | [], _, _, _, _, _ => []
  | l :: rest, cls, d, value, items, units =>
    if l.cls = cls ∧ l.disposition = d ∧ l.value = value then
      { l with items := l.items - items, units := l.units - units } :: rest
    else l :: takeFromLine rest cls d value items units

/-- One item more finds room on the line with a key: the line exists and holds fewer than 65,535 items, or it does not exist and
fewer than 32 lines do (R86). -/
def roomOnLine (lines : List Line) (cls : Option Nat) (d : Disposition) (value : Nat) : Bool :=
  match lineOf lines cls d value with
  | some l => decide (l.items < Config.lineItems)
  | none => decide (lines.length < Config.lineCount)

/-- Items and units join the unresolved tally of a cause (R87). -/
def Unresolved.add (u : Unresolved) (c : Cause) (items units : Nat) : Unresolved :=
  u.set c ⟨Config.fit .unresolvedItems Config.unresolvedItemsMax ((u.get c).items + items),
    Config.fit .unresolvedUnits Config.unresolvedUnitsMax ((u.get c).units + units)⟩

/-! ## The reject button -/

/-- An item joins the reject list, newest first, at most 16 (R54). -/
def State.joinRejects (s : State) (i : LaneIdx) (e : RejectEntry) : State :=
  s.modLane i (fun l => { l with rejects := (e :: l.rejects).take Config.rejectListSize })

/-- The DAMAGED line of a class has room for one item more (R56). -/
def damagedRoom (lines : List Line) (cls : Nat) : Bool := roomOnLine lines (some cls) .damaged 0

/-- The newest entry of the reject list, when a press applies to it (R55, R56). -/
def Lane.pressTarget (l : Lane) : Option RejectEntry :=
  match l.countingDrop, l.rejects with
  | some d, e :: _ => if damagedRoom d.lines e.cls then some e else none
  | _, _ => none

/-- The drop after one item has moved from its paying line to the DAMAGED line of its class (R55). -/
def DropRec.damage (d : DropRec) (e : RejectEntry) : DropRec :=
  { d with
    lines := addToLine (takeFromLine d.lines (some e.cls) e.disposition e.value 1 e.units) (some e.cls) .damaged 0 1 e.units
    rejects := raiseTally d.rejects }

/-- A press is taken on a lane in service (R55, R56). -/
def State.press (s : State) (i : LaneIdx) : State :=
  match (s.lane i).pressTarget with
  | some e =>
    (((s.modLane i (fun l => { l.modDrop (fun d => d.damage e) with rejects := l.rejects.tail })).count i .rejectsApplied)).journalWrite i
      (.reject e.seq e.cls e.units)
  | none => s.count i .lateRejects

end Sys2Proof.Machine
end

