-- ==== Sys2Proof/Machine/TableOps.lean ====
section
/-! DEFINITION. The Table Unit's shared operations: examining entries (R58), finding a failing check (R59), lookups by key and by
index, and the stand-in values of R72. The manual fixes no order in which one lookup examines entries; this model takes them by
rising index (log 11). -/

namespace Sys2Proof.Machine

/-! ## One table -/

/-- A USABLE entry whose check disagrees with its contents (R58). -/
def TableEntry.fails {α : Type} [DecidableEq α] : TableEntry α → Bool
  | .usable contents written => decide (contents ≠ written)
  | .unusable => false

/-- An entry after its examination (R59). -/
def TableEntry.examined {α : Type} [DecidableEq α] (e : TableEntry α) : TableEntry α := if e.fails then .unusable else e

/-- The contents of a USABLE entry. -/
def TableEntry.contents? {α : Type} : TableEntry α → Option α
  | .usable contents _ => some contents
  | .unusable => none

/-- What a get request reports of an examined entry (R63, R66, R68, R70). -/
def TableEntry.report {α : Type} : TableEntry α → Report α
  | .usable contents _ => .usable contents
  | .unusable => .unusable

/-- A fresh entry: its check agrees (R58). -/
def TableEntry.fresh {α : Type} (x : α) : TableEntry α := .usable x x

/-- A table after every USABLE entry has been examined. -/
def sweep {α : Type} [DecidableEq α] (t : Table α) : Table α := t.map (fun p => (p.1, p.2.examined))

/-- The indices found failing by such an examination. -/
def failing {α : Type} [DecidableEq α] (t : Table α) : List Nat := (t.filter (fun p => p.2.fails)).map Prod.fst

/-- A table after the entry at an index has been examined. -/
def sweepAt {α : Type} [DecidableEq α] (t : Table α) (k : Nat) : Table α :=
  match assocGet t k with
  | some e => if e.fails then assocSet t k .unusable else t
  | none => t

/-- The index, when that examination finds it failing. -/
def failingAt {α : Type} [DecidableEq α] (t : Table α) (k : Nat) : List Nat :=
  match assocGet t k with
  | some e => if e.fails then [k] else []
  | none => []

/-- The usable entry whose contents meet `p`, in a table already examined. -/
def findKey {α : Type} (p : α → Bool) : Table α → Option (Nat × α)
  | [] => none
  | (k, .usable c _) :: rest => if p c then some (k, c) else findKey p rest
  | (_, .unusable) :: rest => findKey p rest

/-- The lowest index below `n` whose entry is UNUSABLE. -/
def lowestUnusable {α : Type} (n : Nat) (t : Table α) : Option Nat :=
  (List.range n).find? (fun k => match assocGet t k with | some .unusable => true | _ => false)

/-- Where a new key is written: the lowest EMPTY slot, or failing that the lowest UNUSABLE one (R65, R69). -/
def slotFor {α : Type} (n : Nat) (t : Table α) : Option Nat :=
  match lowestFree n t with
  | some k => some k
  | none => lowestUnusable n t

/-! ## Faults (R59) -/

/-- The count and the notice of each entry found failing. -/
def State.tableFaults (s : State) (t : TableName) (ks : List Nat) : State :=
  ks.foldl (fun s k => (s.post (.tableFault t k)).countYard .tableFaults) s

/-! ## Examinations -/

def State.examineClasses (s : State) : State :=
  { s with tables := { s.tables with classes := sweep s.tables.classes } }.tableFaults .cls (failing s.tables.classes)

def State.examineMarks (s : State) : State :=
  { s with tables := { s.tables with marks := sweep s.tables.marks } }.tableFaults .mark (failing s.tables.marks)

def State.examineAccounts (s : State) : State :=
  { s with tables := { s.tables with accounts := sweep s.tables.accounts } }.tableFaults .account (failing s.tables.accounts)

def State.examineClassAt (s : State) (k : Nat) : State :=
  { s with tables := { s.tables with classes := sweepAt s.tables.classes k } }.tableFaults .cls (failingAt s.tables.classes k)

def State.examineMarkAt (s : State) (k : Nat) : State :=
  { s with tables := { s.tables with marks := sweepAt s.tables.marks k } }.tableFaults .mark (failingAt s.tables.marks k)

def State.examinePoolAt (s : State) (k : Nat) : State :=
  { s with tables := { s.tables with pools := sweepAt s.tables.pools k } }.tableFaults .pool (failingAt s.tables.pools k)

def State.examineAccountAt (s : State) (k : Nat) : State :=
  { s with tables := { s.tables with accounts := sweepAt s.tables.accounts k } }.tableFaults .account
    (failingAt s.tables.accounts k)

/-! ## Lookups after an examination -/

def State.classOf (s : State) (owner type : Nat) : Option (Nat × ClassEntry) :=
  findKey (fun e => decide (e.owner = owner) && decide (e.type = type)) s.tables.classes

def State.markAt (s : State) (owner serial : Nat) : Option (Nat × MarkEntry) :=
  findKey (fun e => decide (e.owner = owner) && decide (e.serial = serial)) s.tables.marks

def State.accountOf (s : State) (number : Nat) : Option (Nat × AccountEntry) :=
  findKey (fun e => decide (e.number = number)) s.tables.accounts

/-- The pool at a number, when it is valid (R68). -/
def State.poolAt (s : State) (n : Nat) : Option PoolEntry :=
  match assocGet s.tables.pools n with
  | some e => e.contents?
  | none => none

/-- The override deposit of a class (R71). -/
def PoolEntry.override (p : PoolEntry) (cls : Nat) : Option Nat :=
  (p.overrides.find? (fun o => decide (o.cls = cls))).map Override.deposit

/-- The account read on the money path, with the stand-in values of R72 when it is absent. -/
def State.accountOrStandIn (s : State) (number : Nat) : AccountEntry :=
  match s.accountOf number with
  | some (_, a) => a
  | none => ⟨number, 0, .credit, 0, 0, 0, .suspended⟩

/-- The number of entries that are not EMPTY. -/
def occupied {α : Type} (t : Table α) : Nat := t.length

end Sys2Proof.Machine
end

