-- ==== Sys2Proof/Machine/Classifier.lean ====
section
/-! DEFINITION. The Classifier: the Sighting List (R89 to R94), the classification ladder (R78 to R85), placement (R86, R87) and the
effects of a classification in the order of R77. -/

namespace Sys2Proof.Machine

/-! ## The Sighting List -/

/-- The entry of a keg. -/
def sightingOf (list : List Sighting) (owner serial : Nat) : Option Sighting :=
  list.find? (fun e => decide (e.owner = owner) && decide (e.serial = serial))

/-- The list without the entry of a keg. -/
def forget (list : List Sighting) (owner serial : Nat) : List Sighting :=
  list.filter (fun e => !(decide (e.owner = owner) && decide (e.serial = serial)))

/-- A keg is learned at the newest end; a full list first loses its oldest entry, counted as evicted (R89). -/
def State.learn (s : State) (owner serial : Nat) (lane : LaneIdx) (drop : Nat) : State :=
  let e : Sighting := ⟨owner, serial, lane, some drop, s.now, 0⟩
  if s.sightings.length < Config.sightingCount then { s with sightings := s.sightings ++ [e] }
  else { s.countYard .evicted with sightings := s.sightings.drop 1 ++ [e] }

/-- A REPEAT refreshes the entry it found (R90). -/
def State.refresh (s : State) (e : Sighting) : State :=
  { s with sightings := forget s.sightings e.owner e.serial ++ [{ e with lastSeen := s.now, repeats := min (e.repeats + 1) 255 }] }

/-- The entry has reached the hold period in force (R91). -/
def State.aged (s : State) (e : Sighting) : Bool := decide (e.lastSeen + s.holdPeriod * 1000 ≤ s.now)

/-- The entries of an abandoned drop are removed (R94). -/
def State.removeSightings (s : State) (drop : Nat) : State :=
  { s with sightings := s.sightings.filter (fun e => decide (e.firstDrop ≠ some drop)) }

/-- How many entries that removes. -/
def State.sightingsOf (s : State) (drop : Nat) : Nat := (s.sightings.filter (fun e => decide (e.firstDrop = some drop))).length

/-- A number assigned anew is detached from the entries that name it (R94). -/
def State.detachSightings (s : State) (drop : Nat) : State :=
  { s with sightings := s.sightings.map (fun e => if e.firstDrop = some drop then { e with firstDrop := none } else e) }

/-! ## The ladder -/

/-- What the ladder decides for an item (R77): the outcome, the class reached, the units, the unit value or journal value, the first
lane of a REPEAT of another lane, and the alert reasons. -/
structure Verdict where
  outcome : ItemOutcome
  cls : Option Nat
  units : Nat
  value : Option Nat
  firstLane : Option LaneIdx
  alerts : List AlertReason
  deriving DecidableEq, Repr

/-- The units of an item (R78). -/
def unitsOf (kind : LaneKind) (c : Capture) : Nat :=
  match kind with
  | .crate => match c.measurement with | some m => m.value | none => 1
  | .keg => 1

/-- The kind of a class. -/
def ClassPart.kind : ClassPart → LaneKind
  | .crate _ => .crate
  | .keg _ _ _ _ => .keg

def Verdict.unresolved (c : Cause) (cls : Option Nat) (units : Nat) (value : Option Nat) : Verdict :=
  ⟨.unresolved c, cls, units, value, none, []⟩

def Verdict.line (d : Disposition) (cls units value : Nat) (alerts : List AlertReason) : Verdict :=
  ⟨.line d, some cls, units, some value, none, alerts⟩

/-- The alert reason of the mark INSPECT. -/
def inspectAlert (mark : Option Mark) : List AlertReason :=
  match mark with
  | some .inspect => [.inspect]
  | _ => []

/-- The weight of a keg above its class's tare, 0 at or below it (R83). -/
def aboveTare (weight tare : Nat) : Nat := weight - tare

/-- Step 10: the weight of a keg just learned (R83, R85). -/
def judgeWeight (cls : Nat) (weight tare ullage full charge base : Nat) (alerts : List AlertReason) : Verdict :=
  let w := aboveTare weight tare
  if full ≤ w then .line .full cls 1 0 (.full :: alerts)
  else if ullage ≤ w then .line .heavy cls 1 (base - charge) alerts
  else .line .accepted cls 1 base alerts

/-- Steps 8 to 10 for a keg that is not BARRED (R83). -/
def State.judgeKeg (s : State) (i : LaneIdx) (drop : Nat) (code : Code) (weight cls tare ullage full charge base : Nat)
    (alerts : List AlertReason) : State × Verdict :=
  match sightingOf s.sightings code.owner code.serial with
  | some e =>
    (s.refresh e, { Verdict.line .repeated cls 1 0 alerts with firstLane := if e.firstLane = i then none else some e.firstLane })
  | none => (s.learn code.owner code.serial i drop, judgeWeight cls weight tare ullage full charge base alerts)

/-- Steps 6 to 10: a keg class (R82, R83). -/
def State.ladderKeg (s : State) (i : LaneIdx) (drop : Nat) (code : Code) (weight units cls tare ullage full charge base : Nat) :
    State × Verdict :=
  if code.serial = 0 then (s, .unresolved .unknownCode (some cls) units (some base))
  else
    let s1 := s.examineMarks
    let mark : Option Mark := (s1.markAt code.owner code.serial).map (fun p => p.2.mark)
    match mark with
    | some .barred => (s1, .line .barred cls units 0 [.barred])
    | _ => s1.judgeKeg i drop code weight cls tare ullage full charge base (inspectAlert mark)

/-- The pool a drop's account trades under, examined and valid (R71, R80). -/
def State.dropPool (s : State) (account : Nat) : State × Option PoolEntry :=
  let s1 := s.examineAccounts
  match s1.accountOf account with
  | none => (s1, none)
  | some (_, a) =>
    let s2 := s1.examinePoolAt a.pool
    (s2, s2.poolAt a.pool)

/-- Steps 4 to 10: the item has a class of its lane's kind (R80 to R83). -/
def State.ladderPool (s : State) (i : LaneIdx) (d : DropRec) (code : Code) (m : Measurement) (units cls : Nat) (e : ClassEntry) :
    State × Verdict :=
  match s.dropPool d.account with
  | (s1, none) => (s1, .line .refused cls units 0 [])
  | (s1, some pool) =>
    if pool.accepted.getLsbD cls then
      let base := (pool.override cls).getD e.deposit
      match e.part with
      | .crate limit =>
        if limit < m.value then (s1, .unresolved .noMeasure (some cls) units (some base))
        else (s1, .line .accepted cls units base [])
      | .keg tare ullage full charge => s1.ladderKeg i d.number code m.value units cls tare ullage full charge base
    else (s1, .line .refused cls units 0 [])

/-- The ladder of Table 5-1 (R78 to R85). -/
def State.ladder (s : State) (i : LaneIdx) (d : DropRec) (c : Capture) : State × Verdict :=
  let kind := (s.lane i).cfg.kind
  let units := unitsOf kind c
  match c with
  | .unread _ => (s, .unresolved .unread none units none)
  | .multiCode _ => (s, .unresolved .multiCode none units none)
  | .noMeasure _ => (s, .unresolved .noMeasure none units none)
  | .ok code m =>
    let s1 := s.examineClasses
    match s1.classOf code.owner code.type with
    | none => (s1, .unresolved .unknownCode none units none)
    | some (cls, e) =>
      if e.part.kind = kind then s1.ladderPool i d code m units cls e
      else (s1, .unresolved .wrongLane (some cls) units (some e.deposit))

/-! ## Placement and effects -/

/-- The outcome after placement (R86): a line without room turns into LINES_FULL. -/
def placedOutcome (lines : List Line) (v : Verdict) : ItemOutcome :=
  match v.outcome with
  | .line d => if roomOnLine lines v.cls d (v.value.getD 0) then .line d else .unresolved .linesFull
  | .unresolved c => .unresolved c

/-- The drop after an item has been placed with this outcome (R86, R87), its long tally raised for a LONG item (R77). -/
def DropRec.place (d : DropRec) (v : Verdict) (o : ItemOutcome) (long : Bool) : DropRec :=
  let d1 : DropRec :=
    match o with
    | .line disp => { d with lines := addToLine d.lines v.cls disp (v.value.getD 0) 1 v.units }
    | .unresolved c => { d with unresolved := d.unresolved.add c 1 v.units }
  if long then { d1 with long := raiseTally d1.long } else d1

/-- A paying disposition: ACCEPTED or HEAVY (R54). -/
def ItemOutcome.paying : ItemOutcome → Option Disposition
  | .line .accepted => some .accepted
  | .line .heavy => some .heavy
  | _ => none

/-- Steps 5 and 6 of R77: the reject list and the alert. -/
def State.listAndAlert (s : State) (i : LaneIdx) (drop seq : Nat) (it : Item) (v : Verdict) (o : ItemOutcome) : State :=
  let s1 :=
    match o.paying with
    | some d => s.joinRejects i ⟨seq, it.completed, v.cls.getD 0, d, v.value.getD 0, v.units⟩
    | none => s
  match v.alerts, v.outcome, it.capture.code with
  | [], _, _ => s1
  | alerts, .line d, some code => s1.post (.itemAlert i drop seq code (v.cls.getD 0) d alerts)
  | _, _, _ => s1

/-- The ITEM entry of R88. Times are milliseconds before the stamp (R166). -/
def itemEntry (now : Nat) (drop : Nat) (it : Item) (v : Verdict) (o : ItemOutcome) : JournalBody :=
  .item drop it.long it.capture v.cls o v.units v.value v.firstLane (now - it.opened) (now - it.aCleared) (now - it.completed)

/-- The effects of a decided classification, in the order of R77. -/
def State.applyVerdict (s : State) (i : LaneIdx) (d : DropRec) (it : Item) (v : Verdict) : State :=
  let o := placedOutcome d.lines v
  let s1 := s.modLane i (fun l => l.modDrop (fun d => d.place v o it.long))
  let seq := s1.seqNext i
  let s2 := s1.journalWrite i (itemEntry s.now d.number it v o)
  let s3 := s2.joinWindow i it.capture.cause.bad
  s3.listAndAlert i d.number seq it v o

/-- An item is classified into the lane's drop (R76). -/
def State.classify (s : State) (i : LaneIdx) (d : DropRec) (it : Item) : State :=
  let r := s.ladder i d it.capture
  r.1.applyVerdict i d it r.2

/-- A stray item (R97). -/
def State.stray (s : State) (i : LaneIdx) (it : Item) : State :=
  let seq := s.seqNext i
  let s1 := s.journalWrite i
    (.stray it.long it.capture (s.now - it.opened) (s.now - it.aCleared) (s.now - it.completed))
  (s1.count i .strayItems).post (.stray i seq it.capture.cause it.capture.code)

end Sys2Proof.Machine
end

