-- ==== Sys2Proof/Machine/StoreOps.lean ====
section
/-! DEFINITION. The Settlement Store's shared operations: finding records, the credit move (R127), becoming final (R125), settling (R128,
R129), hold evaluation (R113 to R115), removal (R130) and entry (R109, R111). -/

namespace Sys2Proof.Machine

/-! ## Finding -/

/-- The slot and record that hold a drop number. -/
def State.findRecord (s : State) (n : Nat) : Option (SlotIdx × SettleRec) :=
  s.store.find? (fun p => decide (p.2.drop.number = n))

/-- The lane and drop that hold a drop number. -/
def State.findLaneDrop (s : State) (n : Nat) : Option (LaneIdx × LaneDrop) :=
  allLanes.findSome? (fun i =>
    match (s.lane i).drop with
    | some d => if d.record.number = n then some (i, d) else none
    | none => none)

/-- The record in a slot. -/
def State.recordAt (s : State) (k : SlotIdx) : Option SettleRec := assocGet s.store k

def State.setRecord (s : State) (k : SlotIdx) (r : SettleRec) : State := { s with store := assocSet s.store k r }

/-- A drop number names a lane drop, a record, or neither. -/
inductive Holder where
  | laneDrop (lane : LaneIdx) (drop : LaneDrop)
  | record (slot : SlotIdx) (r : SettleRec)
  | nobody

def State.holder (s : State) (n : Nat) : Holder :=
  match s.findLaneDrop n with
  | some (i, d) => .laneDrop i d
  | none =>
    match s.findRecord n with
    | some (k, r) => .record k r
    | none => .nobody

/-! ## Becoming final -/

/-- A record reaches a final state (R125): its final stamp is set and it joins the tail of the final order. -/
def State.becomeFinal (s : State) (k : SlotIdx) (r : SettleRec) (state : RecordState) : State :=
  { s.setRecord k { r with state := state, finalStamp := some s.host.clock } with finalOrder := s.finalOrder ++ [k] }

/-- The record leaves any claim queue it stands in. -/
def State.leaveQueues (s : State) (k : SlotIdx) : State :=
  { s with
    stationA := { s.stationA with queue := s.stationA.queue.filter (fun x => decide (x ≠ k)) }
    stationB := { s.stationB with queue := s.stationB.queue.filter (fun x => decide (x ≠ k)) } }

/-- A credit move of a sum out of the outstanding cash (R127). -/
def State.creditMove (s : State) (k : SlotIdx) (r : SettleRec) (sum : Nat) (reason : CreditReason) : State :=
  let r1 := { r with outstanding := r.outstanding - sum, creditIssued := r.creditIssued + sum }
  let notice (tag : RecordTag) : NoticeBody :=
    .credit r.drop.number r.drop.account r.drop.station sum reason r1.creditIssued tag
  if r1.outstanding = 0 then ((s.leaveQueues k).becomeFinal k r1 .credited).post (notice .credited)
  else (s.setRecord k r1).post (notice r1.state.tag)

/-! ## Waiting for a claim -/

/-- The station of a record, if any. -/
def SettleRec.station (r : SettleRec) : Option StationId :=
  match r.drop.station with
  | some binding => binding.station
  | none => none

/-- The deadline of a record that enters AWAITING_CLAIM now (R132). -/
def State.freshDeadline (s : State) (r : SettleRec) : Nat :=
  match r.station with
  | some x => s.now + (s.station x).claimPeriod * 1000
  | none => s.now

/-- A record enters AWAITING_CLAIM with a fresh deadline (R132). -/
def State.awaitClaim (s : State) (k : SlotIdx) (r : SettleRec) : State :=
  s.setRecord k { r with state := .awaiting (s.freshDeadline r) }

/-! ## Settling -/

/-- The cash part of a division (Table 7-3). -/
def cashPartOf (station : Option StationId) (a : AccountEntry) (amount : Nat) : Nat :=
  match station with
  | none => 0
  | some _ =>
    match a.mode with
    | .cash => amount
    | .credit => 0
    | .split => min amount a.cashLimit

/-- The record settles (R128, R129): the account is read, the amount divided, SETTLED and any CREDIT posted. -/
def State.settle (s : State) (k : SlotIdx) (r : SettleRec) : State :=
  let s1 := s.examineAccounts
  let cash := cashPartOf r.station (s1.accountOrStandIn r.drop.account) r.amount
  let credit := r.amount - cash
  let d := r.drop
  let r1 := { r with cashPart := cash, outstanding := cash, creditIssued := credit }
  let tag : RecordTag := if cash = 0 then .credited else .awaiting
  let s2 := s1.post (.settled d.number d.lane d.account d.station r.amount cash credit d.checkCode)
  let s3 := if 0 < credit then s2.post (.credit d.number d.account d.station credit .settle credit tag) else s2
  if cash = 0 then s3.becomeFinal k r1 .credited else s3.awaitClaim k r1

/-! ## Hold evaluation -/

/-- The counted units of a class (R114). -/
def countedUnits (lines : List Line) (cls : Nat) : Nat :=
  ((lines.filter (fun l => decide (l.cls = some cls))).map Line.units).sum

def apart (a b : Nat) : Nat := (a - b) + (b - a)

/-- The DECLARED test fails (R114). -/
def declaredFails (d : DropRec) (tolerance : Nat) : Bool :=
  !d.declarations.isEmpty &&
  (d.declarations.any (fun e => decide (tolerance < apart (countedUnits d.lines e.cls) e.units)) ||
   d.lines.any (fun l =>
     match l.cls with
     | some c => !(d.declarations.any (fun e => decide (e.cls = c))) && decide (tolerance < countedUnits d.lines c)
     | none => false))

def reasonIf (holds : Bool) (r : HoldReason) : List HoldReason := if holds then [r] else []

/-- The hold reasons of a drop as it enters (Table 6-3). -/
def holdReasons (d : DropRec) (a : AccountEntry) : List HoldReason :=
  reasonIf (decide (0 < d.unresolved.items)) .unresolved ++
  reasonIf (declaredFails d a.tolerance) .declared ++
  reasonIf (decide (0 < d.reverse)) .reverse ++
  reasonIf (decide (0 < d.long)) .long ++
  reasonIf d.gateFault .gateFault ++
  reasonIf d.drainCut .drainCut ++
  reasonIf (decide (a.state = .suspended)) .suspended ++
  reasonIf (decide (a.holdAbove ≠ 0) && decide (a.holdAbove < d.amount)) .overLimit

/-- The record made from a drop at entry (R112, Table 7-1). -/
def SettleRec.atEntry (d : DropRec) (reasons : List HoldReason) : SettleRec :=
  { drop := d, state := .held, reasons := reasons, amount := d.amount, cashPart := 0, creditIssued := 0, cashPaid := 0,
    outstanding := 0, unresolvedAmount := 0, retracts := 0, badChecks := 0, finalStamp := none }

/-- Hold evaluation of a drop that has been given a slot, and its settling when nothing holds it (R113, R115). -/
def State.evaluate (s : State) (k : SlotIdx) (d : DropRec) : State :=
  let s1 := s.examineAccounts
  let reasons := holdReasons d (s1.accountOrStandIn d.account)
  let r := SettleRec.atEntry d reasons
  let s2 := (s1.setRecord k r).post
    (.dropDone d.number d.lane d.account d.amount d.classified d.unresolved.items reasons)
  if reasons.isEmpty then s2.settle k r else s2

/-! ## Room, removal and entry -/

/-- A record leaves the store (R130). -/
def State.removeRecord (s : State) (k : SlotIdx) : State :=
  { s with store := assocErase s.store k, finalOrder := s.finalOrder.filter (fun x => decide (x ≠ k)) }

/-- The lowest free slot (R123). -/
def State.freeSlot (s : State) : Option SlotIdx := lowestFree Config.recordCount s.store

/-- The slot a drop takes: a free one, or that of the earliest final record, removed with its notice (R109, R130). -/
def State.grantSlot (s : State) : Option (SlotIdx × State) :=
  match s.freeSlot with
  | some k => some (k, s)
  | none =>
    match s.finalOrder with
    | [] => none
    | k :: _ =>
      match s.recordAt k with
      | none => none
      | some r => some (k, (s.removeRecord k).post (.recordRemoved r.drop.number k r.state.tag r.finalStamp))

/-- A drop whose drain has ended enters the store from its lane, when room can be had (R109). -/
def State.enterStore (s : State) (i : LaneIdx) (d : DropRec) : Option State :=
  match s.grantSlot with
  | none => none
  | some (k, s1) => some ((s1.modLane i (fun l => { l with drop := none })).evaluate k d)

/-- Parked drops enter one after another, oldest first, while there is room (R111). -/
def State.enterParkedN : Nat → State → State
  | 0, s => s
  | n + 1, s =>
    match s.parkOrder with
    | [] => s
    | i :: rest =>
      match (s.lane i).drop with
      | none => s
      | some d =>
        match { s with parkOrder := rest }.enterStore i d.record with
        | none => s
        | some s1 => State.enterParkedN n s1

/-- Whatever room an event has left is offered to the park order (R111; at the end of the event, log 17). -/
def State.enterParked (s : State) : State := State.enterParkedN s.parkOrder.length s

end Sys2Proof.Machine
end

