-- ==== Sys2Proof/Machine/DropOps.lean ====
section
/-! DEFINITION. Handover along the item path (R29 to R32) and the end of a drain (R106 to R110). -/

namespace Sys2Proof.Machine

/-! ## Handover -/

/-- The sample when it is present and fits the lane kind (R31). -/
def sampleInRange (kind : LaneKind) (m : Option Measurement) : Option Measurement :=
  match m with
  | none => none
  | some m =>
    match kind, m.form with
    | .crate, .layers => if 1 ≤ m.value ∧ m.value ≤ 12 then some m else none
    | .keg, .weight => if m.value ≤ 2000 then some m else none
    | _, _ => none

/-- The capture cause with what it carries (Table 2-4). -/
def settleCapture (kind : LaneKind) (it : FwdItem) : Capture :=
  let m := sampleInRange kind it.sample
  if it.headLost then .unread m
  else
    match it.code with
    | .multi => .multiCode m
    | .none => .unread m
    | .one c =>
      match m with
      | none => .noMeasure c
      | some m => .ok c m

/-- The counter of a capture cause (R32). -/
def CaptureCause.counter : CaptureCause → LaneCtr
  | .ok => .paired
  | .noMeasure => .paired
  | .unread => .unread
  | .multiCode => .multiCode

/-- The item record of R32. -/
def itemRecord (kind : LaneKind) (it : FwdItem) (completed : Nat) : Item :=
  { opened := it.opened, aCleared := it.aCleared.getD completed, completed := completed, long := it.long,
    capture := settleCapture kind it }

/-- An item is handed on (R29, R32): its capture counter, accumulation, then classification into an OPEN or DRAINING drop, or the
stray path. -/
def State.handOver (s : State) (i : LaneIdx) (it : FwdItem) (completed : Nat) : State :=
  let item := itemRecord (s.lane i).cfg.kind it completed
  let s1 := (s.count i item.capture.cause.counter).accumulate i
  match (s1.lane i).countingDrop with
  | some d => s1.classify i d item
  | none => s1.stray i item

/-- A late grace ends; a waiting item is handed on (R27, R29). -/
def State.endGrace (s : State) (i : LaneIdx) : State :=
  match (s.lane i).waiting with
  | some w => (s.modLane i (fun l => { l with grace := none, waiting := none })).handOver i w.item w.completed
  | none => s.modLane i (fun l => { l with grace := none })

/-- The drop events of R30 end the grace of a waiting item first. -/
def State.handOverWaiting (s : State) (i : LaneIdx) : State :=
  if (s.lane i).waiting.isSome then s.endGrace i else s

/-! ## The end of a drain -/

/-- The drop as it stands when its drain has ended (R108, steps 1 to 3 and 5). -/
def DropRec.drained (d : DropRec) (clock lastSeq : Nat) (binding : Binding) : DropRec :=
  { d with drainEndStamp := some clock, station := some binding, lastSeq := some lastSeq }

/-- A drop that finds no room is parked (R110). -/
def State.park (s : State) (i : LaneIdx) (d : DropRec) : State :=
  { s.modLane i (fun l => { l with drop := some ⟨d, .parked⟩ }) with parkOrder := s.parkOrder ++ [i] }.post
    (.storeFull i d.number (s.parkOrder.length + 1))

/-- The drop enters the store or is parked (R109, R110). -/
def State.leaveLane (s : State) (i : LaneIdx) (d : DropRec) : State :=
  match s.parkOrder with
  | _ :: _ => s.park i d
  | [] =>
    match s.enterStore i d with
    | some s1 => s1
    | none => s.park i d

/-- A drain ends (R108). -/
def State.drainEnd (s : State) (i : LaneIdx) (how : DropEnd) : State :=
  match (s.lane i).drop with
  | none => s
  | some d =>
    let d1 := d.record.drained s.host.clock (s.seqNext i) (s.lane i).cfg.binding
    let s1 := s.modLane i (fun l => { l with rejects := [], drop := some ⟨d1, d.state⟩ })
    let s2 := s1.journalWrite i (.dropClose d1.number how d1.classified d1.amount)
    (s2.leaveLane i d1).enterParked

/-- The quiet point of a DRAINING drop (R106). -/
def Lane.quietPoint (l : Lane) : Option Nat :=
  match l.drop with
  | some ⟨_, .draining closedAt⟩ => some (l.lastABlock.getD closedAt + l.cfg.drainQuiet)
  | _ => none

/-- The quiet condition of a drain holds (R106). -/
def Lane.quiet (l : Lane) (now : Nat) : Bool :=
  match l.quietPoint with
  | some q => decide (q ≤ now) && decide (l.gate = .idle) && l.grace.isNone
  | none => false

/-- The test of R106 at an event that can make the condition true. -/
def State.quietTest (s : State) (i : LaneIdx) : State := if (s.lane i).quiet s.now then s.drainEnd i .quiet else s

/-- The drain timer has run for the drain limit (R107). -/
def Lane.drainLimitReached (l : Lane) (now : Nat) : Bool :=
  match l.drop with
  | some ⟨_, .draining closedAt⟩ => decide (closedAt + l.cfg.drainLimit * 1000 ≤ now)
  | _ => false

/-- The drain is cut (R107): the flag is set, a waiting item is handed on into the drop, and the drain ends. -/
def State.cutDrain (s : State) (i : LaneIdx) : State :=
  ((s.modLane i (fun l => l.modDrop (fun d => { d with drainCut := true }))).handOverWaiting i).drainEnd i .cut

end Sys2Proof.Machine
end

