-- ==== Sys2Proof/Machine/CaptureOps.lean ====
section
/-! DEFINITION. Identity Capture's shared operations: code states (R25), the early hold (R26), routing of a code (R24), withdrawn items
(R28), and the loss and return of a head (R20 to R22). -/

namespace Sys2Proof.Machine

/-- A code reaches an item (R25, R27). -/
def CodeState.offer (s : CodeState) (c : Code) : CodeState :=
  match s with
  | .none => .one c
  | .one c' => if c' = c then .one c' else .multi
  | .multi => .multi

def FwdItem.offer (it : FwdItem) (c : Code) : FwdItem := { it with code := it.code.offer c }

def FwdItem.markLost (it : FwdItem) : FwdItem := { it with headLost := true }

/-- Change every forward item the gate holds. -/
def Gate.mapItems (f : FwdItem → FwdItem) : Gate → Gate
  | .idle => .idle
  | .enter it => .enter (f it)
  | .span it => .span (f it)
  | .exit it => .exit (f it)
  | .exitEnter x e => .exitEnter (f x) (f e)
  | .back t => .back t
  | .backSpan t => .backSpan t
  | .backExit t => .backExit t
  | .fault beams t => .fault beams t
  | .reset => .reset

/-- A code is routed to the early hold (R26). -/
def State.toEarlyHold (s : State) (i : LaneIdx) (c : Code) : State :=
  let l := s.lane i
  if l.cfg.earlyHold = 0 then s.count i .strayReads
  else
    let s1 := s.modLane i (fun l => { l with early := some ⟨c, s.now⟩ })
    match l.early with
    | some h => if h.code = c then s1 else s1.count i .strayReads
    | none => s1

/-- A code held is discarded and counted as a stray read (R26, R33). -/
def State.dropEarly (s : State) (i : LaneIdx) : State :=
  if (s.lane i).early.isSome then (s.modLane i (fun l => { l with early := none })).count i .strayReads else s

/-- A code reaches the item in late grace: the one in EXIT, or the waiting one (R27). -/
def Lane.offerInGrace (l : Lane) (c : Code) : Lane :=
  match l.gate with
  | .exit it => { l with gate := .exit (it.offer c) }
  | _ => { l with waiting := l.waiting.map (fun w => { w with item := w.item.offer c }) }

/-- A CODE frame is routed as Table 2-3 gives (R24). -/
def State.routeCode (s : State) (i : LaneIdx) (c : Code) : State :=
  let l := s.lane i
  let early := if l.grace.isSome then s.modLane i (fun l => l.offerInGrace c) else s.toEarlyHold i c
  match l.gate with
  | .enter it => s.modLane i (fun l => { l with gate := .enter (it.offer c) })
  | .span it => s.modLane i (fun l => { l with gate := .span (it.offer c) })
  | .exitEnter x e => s.modLane i (fun l => { l with gate := .exitEnter x (e.offer c) })
  | .exit _ => early
  | .idle => early
  | .back _ => early
  | .backSpan _ => s.count i .strayReads
  | .backExit _ => s.count i .strayReads
  | .fault _ _ => s.count i .strayReads
  | .reset => s

/-- A withdrawn item's code enters the early hold as if it had just arrived, when it is one code and the item is not head-lost
(R28). -/
def State.returnCode (s : State) (i : LaneIdx) (it : FwdItem) : State :=
  match it.code with
  | .one c => if it.headLost then s else s.toEarlyHold i c
  | _ => s

/-- A forward item as first held when A blocks (R5, R25, R26): it takes any code in the early hold. -/
def Lane.openItem (l : Lane) (now : Nat) : FwdItem :=
  { opened := now, longTimer := some now, long := false, sample := none, aCleared := none,
    code := match l.early with | some h => .one h.code | none => .none
    headLost := decide (l.head = .lost) }

/-- The sample an item takes as it enters SPAN (R6, R23). -/
def Lane.sample (l : Lane) (now : Nat) : Option Measurement :=
  match l.measure with
  | some m => if now - m.arrival ≤ l.cfg.measureAge then some m.value else none
  | none => none

/-! ## The head -/

/-- The fault code a loss records (R21). -/
def HeadCause.record (c : HeadCause) (was : Nat) : Nat :=
  match c with
  | .silent => was
  | .code n => n

/-- The head is declared lost (R21). -/
def State.declareLost (s : State) (i : LaneIdx) (cause : HeadCause) : State :=
  let s1 := (s.modLane i (fun l => { l with head := .lost, lastFault := cause.record l.lastFault })).dropEarly i
  let s2 := s1.modLane i (fun l =>
    { l with gate := l.gate.mapItems FwdItem.markLost, waiting := l.waiting.map (fun w => { w with item := w.item.markLost }) })
  (s2.journalWrite i (.fault (.headLost cause))).post (.headLost i cause)

/-- The head returns (R22). -/
def State.headReturns (s : State) (i : LaneIdx) : State :=
  ((s.modLane i (fun l => { l with head := .present s.now })).journalWrite i (.fault .headBack)).post (.headBack i)

/-- A valid frame restarts the silence timer of a PRESENT head (R20). -/
def Lane.restartSilence (l : Lane) (now : Nat) : Lane :=
  match l.head with
  | .present _ => { l with head := .present now }
  | _ => l

/-- A frame has ended on the lane's head link: the receiver hunts again (R186). -/
def State.headHunts (s : State) (i : LaneIdx) : State := s.modLane i (fun l => { l with headRx := .hunting })

/-- A valid CODE frame on a lane in service (R22, R24). -/
def State.codeArrives (s : State) (i : LaneIdx) (c : Code) : State :=
  match (s.lane i).head with
  | .off => s
  | .present _ => (s.modLane i (fun l => l.restartSilence s.now)).routeCode i c
  | .lost => (s.headReturns i).routeCode i c

/-- A valid MEASURE frame (R23). -/
def State.measureArrives (s : State) (i : LaneIdx) (m : Measurement) : State :=
  match (s.lane i).head with
  | .off => s
  | _ => s.modLane i (fun l => { l.restartSilence s.now with measure := some ⟨m, s.now⟩ })

/-- A valid STATUS frame (R20, R21, R22). -/
def State.statusArrives (s : State) (i : LaneIdx) (condition : Nat) : State :=
  match (s.lane i).head with
  | .off => s
  | .present _ =>
    if condition = 0 then s.modLane i (fun l => l.restartSilence s.now) else s.declareLost i (.code condition)
  | .lost => if condition = 0 then s.headReturns i else s.modLane i (fun l => { l with lastFault := condition })

/-- The form a MEASURE frame names (Table 10-8). -/
def formOf (n : Nat) : Form := if n = 0 then .layers else .weight

/-- A frame that ends on a lane's head link, taken by its kind when it is valid (R19). -/
def State.headFrame (s : State) (i : LaneIdx) (f : Option HeadFrame) : State :=
  let s1 := s.headHunts i
  match f with
  | some (.code o t n) => s1.codeArrives i ⟨o, t, n⟩
  | some (.measure form v) => s1.measureArrives i ⟨formOf form, v⟩
  | some (.status c) => s1.statusArrives i c
  | none => s1

end Sys2Proof.Machine
end

