-- ==== Sys2Proof/Machine/GateOps.lean ====
section
/-! DEFINITION. The Gate Sequencer: the edges of Table 1-2 (R3 to R11), the stuck beam (R13, R14), the fault clear (R15), and leaving and
entering RESET (R17). -/

namespace Sys2Proof.Machine

/-- One of the eight counting states (R2). -/
def Gate.counting : Gate → Bool
  | .fault _ _ => false
  | .reset => false
  | _ => true

def Lane.beam (l : Lane) : Beam → Debouncer
  | .a => l.beamA
  | .b => l.beamB

def Lane.setBeam (l : Lane) (x : Beam) (d : Debouncer) : Lane :=
  match x with
  | .a => { l with beamA := d }
  | .b => { l with beamB := d }

/-- The start of a beam's stuck timer, while it runs (R13). -/
def Lane.stuck (l : Lane) : Beam → Option Nat
  | .a => l.stuckA
  | .b => l.stuckB

def Lane.setStuck (l : Lane) (x : Beam) (t : Option Nat) : Lane :=
  match x with
  | .a => { l with stuckA := t }
  | .b => { l with stuckB := t }

def State.setGate (s : State) (i : LaneIdx) (g : Gate) : State := s.modLane i (fun l => { l with gate := g })

/-- A gate glitch (R4). -/
def State.glitch (s : State) (i : LaneIdx) : State := s.count i .glitches

/-! ## Outcomes of Table 1-2 -/

/-- A forward item is withdrawn (R9, R28). -/
def State.bounceForward (s : State) (i : LaneIdx) (it : FwdItem) (g : Gate) : State :=
  ((s.setGate i g).count i .bounces).returnCode i it

/-- A forward transit completes (R7): handed on at once when its late grace has ended, else it waits (R29). -/
def State.complete (s : State) (i : LaneIdx) (it : FwdItem) (g : Gate) : State :=
  let s1 := (s.setGate i g).count i .forward
  let s2 := if it.long then s1.count i .longItems else s1
  if (s.lane i).grace.isSome then s2.modLane i (fun l => { l with waiting := some ⟨it, s.now⟩ })
  else s2.handOver i it s.now

/-- A reverse transit completes (R11, R45). -/
def State.reverseCompletes (s : State) (i : LaneIdx) (seenB : Nat) : State :=
  let s1 := ((s.setGate i .idle).count i .reverse).journalWrite i (.reverse (s.now - seenB))
  (s1.modCounting i (fun d => { d with reverse := raiseTally d.reverse })).leaveAccumulation i

/-- The item leaves A forward (R5, R12, R27): its window closes and its late grace begins; a grace of 0 ms ends at once. -/
def State.closeWindow (s : State) (i : LaneIdx) (it : FwdItem) : State :=
  s.modLane i (fun l =>
    { l with gate := .exit { it with longTimer := none, aCleared := some s.now }
             grace := if l.cfg.lateGrace = 0 then none else some s.now })

/-- A new forward item at A (R5, R25, R26). -/
def State.openWindow (s : State) (i : LaneIdx) (g : FwdItem → Gate) : State :=
  s.modLane i (fun l => { l with gate := g (l.openItem s.now), early := none })

/-- A blocks in a counting state: the most recent A-blocking time is noted (R16), the late grace ends (R27), and the edge is applied
(R3). -/
def State.aBlocks (s : State) (i : LaneIdx) : State :=
  let s1 := (s.modLane i (fun l => { l with lastABlock := some s.now })).endGrace i
  match (s1.lane i).gate with
  | .idle => s1.openWindow i .enter
  | .exit it => s1.openWindow i (.exitEnter it)
  | .back t => s1.setGate i (.backSpan t)
  | _ => s1.glitch i

/-- A clears in a counting state (R3). -/
def State.aClears (s : State) (i : LaneIdx) : State :=
  match (s.lane i).gate with
  | .enter it => s.bounceForward i it .idle
  | .span it => s.closeWindow i it
  | .exitEnter x e => s.bounceForward i e (.exit x)
  | .backSpan t => s.setGate i (.back t)
  | .backExit t => s.reverseCompletes i t
  | _ => s.glitch i

/-- B blocks in a counting state (R3, R6). -/
def State.bBlocks (s : State) (i : LaneIdx) : State :=
  match (s.lane i).gate with
  | .idle => s.setGate i (.back s.now)
  | .enter it => s.setGate i (.span { it with sample := (s.lane i).sample s.now })
  | .backExit t => s.setGate i (.backSpan t)
  | _ => s.glitch i

/-- B clears in a counting state (R3). -/
def State.bClears (s : State) (i : LaneIdx) : State :=
  match (s.lane i).gate with
  | .span it => s.setGate i (.enter it)
  | .exit it => s.complete i it .idle
  | .exitEnter x e => s.complete i x (.enter e)
  | .back _ => (s.setGate i .idle).count i .bounces
  | .backSpan t => s.setGate i (.backExit t)
  | _ => s.glitch i

/-- A settled edge in a counting state. -/
def State.countingEdge (s : State) (i : LaneIdx) (x : Beam) (blocks : Bool) : State :=
  match x, blocks with
  | .a, true => s.aBlocks i
  | .a, false => s.aClears i
  | .b, true => s.bBlocks i
  | .b, false => s.bClears i

/-- The fault-clear timer after an edge in FAULT (R15). -/
def Lane.faultTimer (l : Lane) (now : Nat) : Option Nat := if l.beamA.settled || l.beamB.settled then none else some now

/-- A settled edge is delivered to the sequencer (R3, R13, R15, R17). -/
def State.deliverEdge (s : State) (i : LaneIdx) (x : Beam) (blocks : Bool) : State :=
  match (s.lane i).gate with
  | .reset => s
  | .fault beams _ => s.modLane i (fun l => { l with gate := .fault beams (l.faultTimer s.now) })
  | _ => (s.modLane i (fun l => l.setStuck x (if blocks then some s.now else none))).countingEdge i x blocks

/-! ## Abandoning held items (R14, step 1) -/

/-- The ABANDONED entries of the items a gate holds, the older item first (log 15). The LONG flag of a reversing item, which R12 gives no
long timer, is written clear: the model's choice (log 27). -/
def Gate.abandoned (g : Gate) (now : Nat) : List JournalBody :=
  let fwd (it : FwdItem) : JournalBody := .abandoned .forward (now - it.opened) it.long
  match g with
  | .enter it => [fwd it]
  | .span it => [fwd it]
  | .exit it => [fwd it]
  | .exitEnter x e => [fwd x, fwd e]
  | .back t => [.abandoned .reversing (now - t) false]
  | .backSpan t => [.abandoned .reversing (now - t) false]
  | .backExit t => [.abandoned .reversing (now - t) false]
  | _ => []

/-- The item in EXIT takes its late grace with it when it is abandoned; a waiting item is not in the gate and keeps its own (R28). -/
def Lane.graceAfterAbandon (l : Lane) : Option Nat :=
  match l.gate with
  | .exit _ => none
  | _ => l.grace

/-- Every item the gate holds is abandoned and the gate goes to another state with both stuck timers stopped. -/
def State.abandonItems (s : State) (i : LaneIdx) (g : Gate) : State :=
  let held := (s.lane i).gate.abandoned s.now
  let s1 := held.foldl (fun s e => (s.journalWrite i e).count i .abandoned) s
  s1.modLane i (fun l => { l with gate := g, grace := l.graceAfterAbandon, stuckA := none, stuckB := none })

/-- A beam fault is declared (R14). -/
def State.declareFault (s : State) (i : LaneIdx) (beams : FaultBeams) : State :=
  let n := ((s.lane i).gate.abandoned s.now).length
  let s1 := s.abandonItems i (.fault beams ((s.lane i).faultTimer s.now))
  let s2 := s1.modCounting i (fun d => { d with gateFault := true })
  (s2.journalWrite i (.fault (.beamFault beams))).post (.beamFault i beams n)

/-- The stuck timer of a beam has reached the stuck limit (R13). -/
def Lane.stuckReached (l : Lane) (x : Beam) (now : Nat) : Bool :=
  match l.stuck x with
  | some t => l.gate.counting && decide (t + l.cfg.stuckLimit * 1000 ≤ now)
  | none => false

/-- The beams a fault declared now names (R13). -/
def Lane.stuckBeams (l : Lane) (x : Beam) (now : Nat) : FaultBeams :=
  if l.stuckReached .a now && l.stuckReached .b now then .both
  else match x with | .a => .a | .b => .b

/-- The fault-clear timer has run for 2,000 ms (R15). -/
def Lane.faultClearReached (l : Lane) (now : Nat) : Bool :=
  match l.gate with
  | .fault _ (some t) => decide (t + Config.faultClearMs ≤ now)
  | _ => false

/-- The fault clears (R15). -/
def State.clearFault (s : State) (i : LaneIdx) : State :=
  let s1 := s.modLane i (fun l => { l with gate := .idle, stuckA := none, stuckB := none })
  (s1.journalWrite i (.fault .beamClear)).post (.beamClear i)

/-! ## The long timer (R12) -/

/-- The forward item that holds A, if any. -/
def Gate.atA : Gate → Option FwdItem
  | .enter it => some it
  | .span it => some it
  | .exitEnter _ e => some e
  | _ => none

/-- The long timer of the item at A has reached the long limit and its flag is still clear. -/
def Lane.longReached (l : Lane) (now : Nat) : Bool :=
  match l.gate.atA with
  | some it =>
    match it.longTimer with
    | some t => !it.long && decide (t + l.cfg.longLimit ≤ now)
    | none => false
  | none => false

/-- The LONG flag of the item at A is set. -/
def Gate.setLong : Gate → Gate
  | .enter it => .enter { it with long := true }
  | .span it => .span { it with long := true }
  | .exitEnter x e => .exitEnter x { e with long := true }
  | .idle => .idle
  | .exit it => .exit it
  | .back t => .back t
  | .backSpan t => .backSpan t
  | .backExit t => .backExit t
  | .fault beams t => .fault beams t
  | .reset => .reset

/-! ## Expiries of Identity Capture -/

/-- The head's silence timer has run for 2,000 ms (R20). -/
def Lane.silenceReached (l : Lane) (now : Nat) : Bool :=
  match l.head with
  | .present t => decide (t + Config.headSilenceMs ≤ now)
  | _ => false

/-- The hold time of a held code has run out (R26). -/
def Lane.earlyReached (l : Lane) (now : Nat) : Bool :=
  match l.early with
  | some h => decide (h.since + l.cfg.earlyHold ≤ now)
  | none => false

/-- The late grace has run out (R27). -/
def Lane.graceReached (l : Lane) (now : Nat) : Bool :=
  match l.grace with
  | some t => decide (t + l.cfg.lateGrace ≤ now)
  | none => false

/-- The oldest entry of the reject list has reached the reject window (R54). -/
def Lane.rejectReached (l : Lane) (now : Nat) : Bool :=
  match l.rejects.getLast? with
  | some e => decide (e.completed + l.cfg.rejectWindow ≤ now)
  | none => false

end Sys2Proof.Machine
end

