-- ==== Sys2Proof/Machine/Capture.lean ====
section
/-! DEFINITION. The meanings of the sensor heads' and Identity Capture's commands (chapter 2). -/

namespace Sys2Proof.Machine

/-- HEAD_FRAME_DISCARD (R19): the command carries the frame as received. An invalid frame, and any frame on a lane that is OFF, only
sets the receiver hunting; a frame that is valid after all is taken by its kind (log 20). -/
def execHeadFrameDiscard (i : LaneIdx) (f : Frame) (check : Check) (s : State) : Outcome :=
  event (fun s => s.headFrame i (headFrameOf f check)) s

/-- HEAD_BYTE_TIMEOUT (R186). -/
def execHeadByteTimeout (i : LaneIdx) (s : State) : Outcome :=
  event (fun s => if (s.lane i).headRx.gapReached s.now then s.headHunts i else s) s

/-- A head frame with these fields, discarded when one lies outside its range (R19, log 20). -/
def validHead (f : HeadFrame) : Option HeadFrame := if f.inRange then some f else none

/-- CODE_FRAME (R24). -/
def execCodeFrame (i : LaneIdx) (owner type serial : Nat) (s : State) : Outcome :=
  event (fun s => s.headFrame i (validHead (.code owner type serial))) s

/-- MEASURE_FRAME (R23). -/
def execMeasureFrame (i : LaneIdx) (form value : Nat) (s : State) : Outcome :=
  event (fun s => s.headFrame i (validHead (.measure form value))) s

/-- STATUS_FRAME (R20, R21, R22). -/
def execStatusFrame (i : LaneIdx) (condition : Nat) (s : State) : Outcome :=
  event (fun s => s.headFrame i (validHead (.status condition))) s

/-- HEAD_SILENCE (R20). -/
def execHeadSilence (i : LaneIdx) (s : State) : Outcome :=
  event (fun s => if (s.lane i).silenceReached s.now then s.declareLost i .silent else s) s

/-- EARLY_HOLD_EXPIRY (R26). -/
def execEarlyHoldExpiry (i : LaneIdx) (s : State) : Outcome :=
  event (fun s => if (s.lane i).earlyReached s.now then s.dropEarly i else s) s

/-- LATE_GRACE_EXPIRY (R27, R29); the drain is tested after the waiting item has been handed on (R106). -/
def execLateGraceExpiry (i : LaneIdx) (s : State) : Outcome :=
  event (fun s => if (s.lane i).graceReached s.now then (s.endGrace i).quietTest i else s) s

end Sys2Proof.Machine
end

