-- ==== Sys2Proof/Machine/Operands.lean ====
section
/-! DEFINITION. From the operands of a request, as sent, to the values they name: none where a value lies outside its stated range
(Conventions 3.7: such a request is refused with RANGE). -/

namespace Sys2Proof.Machine

/-- A lane number 1 to 6. -/
def laneOf (n : Nat) : Option LaneIdx := if h : 1 ≤ n ∧ n ≤ 6 then some ⟨n - 1, by omega⟩ else none

/-- A station, numbered from 0 (R184). -/
def stationOf (n : Nat) : Option StationId :=
  match n with
  | 0 => some .a
  | 1 => some .b
  | _ => none

def within (lo hi n : Nat) : Bool := decide (lo ≤ n) && decide (n ≤ hi)

def kindOf (n : Nat) : Option LaneKind :=
  match n with
  | 0 => some .crate
  | 1 => some .keg
  | _ => none

def bindingOf (n : Nat) : Option Binding :=
  match n with
  | 0 => some .a
  | 1 => some .b
  | 2 => some .none
  | _ => none

def capacityOf (n : Nat) : Option Nat :=
  match n with
  | 0 => some 8
  | 1 => some 16
  | 2 => some 32
  | _ => none

def windowOf (n : Nat) : Option Nat :=
  match n with
  | 0 => some 16
  | 1 => some 32
  | 2 => some 64
  | 3 => some 128
  | _ => none

/-- The configuration of a LANE.SET, when every field lies in its range (R40, Table 3-2). -/
def laneConfigOf (c : LaneConfigArgs) : Option LaneConfig :=
  match kindOf c.kind, bindingOf c.binding, capacityOf c.capacity, windowOf c.readWindow with
  | some kind, some binding, some capacity, some w =>
    if within 500 10000 c.longLimit && within 5 120 c.stuckLimit && within 0 1000 c.earlyHold && within 0 500 c.lateGrace &&
       within 100 2000 c.measureAge && within 1000 30000 c.rejectWindow && within 500 20000 c.drainQuiet &&
       within 5 600 c.drainLimit && within 1 w c.declareCount && within 1 w c.clearRun then
      some { kind := kind, binding := binding, capacity := capacity, longLimit := c.longLimit, stuckLimit := c.stuckLimit,
             earlyHold := c.earlyHold, lateGrace := c.lateGrace, measureAge := c.measureAge, rejectWindow := c.rejectWindow,
             drainQuiet := c.drainQuiet, drainLimit := c.drainLimit, readWindow := w, declareCount := c.declareCount,
             clearRun := c.clearRun }
    else none
  | _, _, _, _ => none

/-- A class entry whose fields and combined test hold and which carries the part of its own kind alone (R60, R61). -/
def classEntryOf (e : ClassArgs) : Option ClassEntry :=
  if within 0 4095 e.owner && within 0 255 e.type && within 0 999999 e.deposit then
    match kindOf e.kind, e.crate, e.keg with
    | some .crate, some limit, none =>
      if within 1 12 limit then some ⟨e.owner, e.type, e.deposit, .crate limit⟩ else none
    | some .keg, none, some k =>
      if within 0 2000 k.tare && within 1 2000 k.ullage && within 1 2000 k.full && within 0 999999 k.charge &&
         decide (k.ullage ≤ k.full) && decide (k.tare + k.full ≤ 2000) then
        some ⟨e.owner, e.type, e.deposit, .keg k.tare k.ullage k.full k.charge⟩
      else none
    | _, _, _ => none
  else none

def markOf (n : Nat) : Option Mark :=
  match n with
  | 0 => some .barred
  | 1 => some .inspect
  | _ => none

/-- An owner and a serial other than 0 (R64, R92). -/
def keyInRange (owner serial : Nat) : Bool := within 0 4095 owner && within 1 1048575 serial

/-- The class numbers of a list differ from one another. -/
def distinct : List Nat → Bool
  | [] => true
  | x :: xs => !xs.contains x && distinct xs

/-- The body of a POOL.PUT meets the tests of R67. -/
def poolInRange (accepted : BitVec 64) (overrides : List Override) : Bool :=
  decide (overrides.length ≤ 8) && distinct (overrides.map Override.cls) &&
  overrides.all (fun o => within 0 63 o.cls && within 0 999999 o.deposit && accepted.getLsbD o.cls)

def modeOf (n : Nat) : Option PayoutMode :=
  match n with
  | 0 => some .cash
  | 1 => some .credit
  | 2 => some .split
  | _ => none

def accountStateOf (n : Nat) : Option AccountState :=
  match n with
  | 0 => some .active
  | 1 => some .suspended
  | _ => none

/-- An account entry whose number is not 0 and whose fields lie in their ranges (R69, Table 4-3). -/
def accountEntryOf (number : Nat) (a : AccountArgs) : Option AccountEntry :=
  match modeOf a.mode, accountStateOf a.state with
  | some mode, some state =>
    if within 1 65535 number && within 0 15 a.pool && within 0 99999999 a.cashLimit && within 0 255 a.tolerance &&
       within 0 (2 ^ 48 - 1) a.holdAbove then
      some ⟨number, a.pool, mode, a.cashLimit, a.tolerance, a.holdAbove, state⟩
    else none
  | _, _ => none

/-- The declarations of DROP.OPEN meet R104. -/
def declarationsInRange (ds : List Declaration) : Bool :=
  decide (ds.length ≤ 8) && ds.all (fun d => within 0 63 d.cls && within 0 999999 d.units) && distinct (ds.map Declaration.cls)

/-- A driver reference of at most 16 printable characters (R101). -/
def driverInRange (d : List Byte) : Bool := decide (d.length ≤ 16) && d.all (fun c => within 32 126 c.toNat)

def causeOf (n : Nat) : Option Cause :=
  match n with
  | 0 => some .unread
  | 1 => some .multiCode
  | 2 => some .noMeasure
  | 3 => some .unknownCode
  | 4 => some .wrongLane
  | 5 => some .linesFull
  | _ => none

/-- One entry of DROP.RESOLVE with its cause named. -/
structure ResolveEntry where
  cause : Cause
  cls : Nat
  items : Nat
  units : Nat
  value : Nat
  deriving DecidableEq, Repr

/-- An entry that passes the range test of R116. -/
def resolveEntryOf (e : ResolveArgs) : Option ResolveEntry :=
  match causeOf e.cause with
  | some cause =>
    if within 0 63 e.cls && within 1 65535 e.items && within e.items (12 * e.items) e.units && within 0 999999 e.value then
      some ⟨cause, e.cls, e.items, e.units, e.value⟩
    else none
  | none => none

/-- All of a list, or none. -/
def allSome {α β : Type} (f : α → Option β) : List α → Option (List β)
  | [] => some []
  | x :: xs =>
    match f x, allSome f xs with
    | some y, some ys => some (y :: ys)
    | _, _ => none

/-- The entries of a DROP.RESOLVE that pass the first test of R116: 1 to 8 of them, each in range. -/
def resolveEntriesOf (es : List ResolveArgs) : Option (List ResolveEntry) :=
  if within 1 8 es.length then allSome resolveEntryOf es else none

/-- A cassette of STATION.LOAD that meets R150; a loaded cassette's alarm is armed. -/
def cassetteOf (c : CassetteArgs) : Option Cassette :=
  if within 0 100000 c.denomination && within 0 2000 c.count && within 0 2000 c.threshold &&
     !(decide (c.denomination = 0) && decide (0 < c.count)) then
    some ⟨c.denomination, c.count, c.threshold, true⟩
  else none

/-- The four cassettes of STATION.LOAD. -/
def cassettesOf (cs : Four CassetteArgs) : Option (Four Cassette) :=
  match cassetteOf cs.c1, cassetteOf cs.c2, cassetteOf cs.c3, cassetteOf cs.c4 with
  | some a, some b, some c, some d => some ⟨a, b, c, d⟩
  | _, _, _, _ => none

end Sys2Proof.Machine
end

