-- ==== Sys2Proof/Machine/StationOps.lean ====
section
/-! DEFINITION. The payout stations' shared operations: the link (R146), the breakdown (R155), serving (R154, R138), the end and the failure
of a dispense (R161, R162), returning the queue (R142), cassettes (R152), and the judgement of a claim (R134 to R137). -/

namespace Sys2Proof.Machine

/-- A frame is formed for a station's link (R145). -/
def State.send (s : State) (x : StationId) (f : StationTx) : State := s.modStation x (fun t => { t with sent := t.sent ++ [f] })

/-- STATION_CHANGE with the state and link as they stand (R147). -/
def State.stationChanged (s : State) (x : StationId) (cause : StationCause) : State :=
  s.post (.stationChange x (s.station x).state.tag (s.station x).link.isUp cause)

def State.setStationState (s : State) (x : StationId) (st : StationState) : State := s.modStation x (fun t => { t with state := st })

/-- A valid frame acts on the link state (R145, R146): it is taken before the frame's kind. -/
def State.linkFrame (s : State) (x : StationId) : State :=
  let s1 := s.modStation x (fun t => { t with link := .up s.now, rx := .hunting })
  if (s.station x).link.isUp then s1 else s1.stationChanged x .linkBack

/-- The silence timer of a link has run for 3,000 ms (R146). -/
def Station.silenceReached (t : Station) (now : Nat) : Bool :=
  match t.link with
  | .up since => decide (since + Config.stationSilenceMs ≤ now)
  | .lost => false

/-! ## The breakdown (R155) -/

/-- A cassette with its number, 0 to 3. -/
abbrev Numbered := Nat × Cassette

/-- The first cassette is taken before the second: higher denomination, then lower number. -/
def takenBefore (x y : Numbered) : Bool :=
  decide (y.2.denomination < x.2.denomination) || (decide (x.2.denomination = y.2.denomination) && decide (x.1 < y.1))

def insertCassette (x : Numbered) : List Numbered → List Numbered
  | [] => [x]
  | y :: ys => if takenBefore x y then x :: y :: ys else y :: insertCassette x ys

/-- The cassettes in use, in the order they are taken. -/
def takingOrder (cs : Four Cassette) : List Numbered :=
  ([(0, cs.c1), (1, cs.c2), (2, cs.c3), (3, cs.c4)].filter (fun x => decide (x.2.denomination ≠ 0))).foldr insertCassette []

/-- The notes ordered from each cassette taken, for a remainder and the notes still allowed. -/
def orderNotes : List Numbered → Nat → Nat → List (Nat × Nat)
  | [], _, _ => []
  | (k, c) :: rest, remainder, allowed =>
    let n := min (min (remainder / c.denomination) c.count) allowed
    (k, n) :: orderNotes rest (remainder - n * c.denomination) (allowed - n)

def notesFrom (orders : List (Nat × Nat)) (k : Nat) : Nat := (assocGet orders k).getD 0

/-- The breakdown of an outstanding cash, as notes from each cassette (R155). -/
def breakdown (cs : Four Cassette) (cash : Nat) : Four Nat :=
  let orders := orderNotes (takingOrder cs) cash Config.notesPerDispense
  ⟨notesFrom orders 0, notesFrom orders 1, notesFrom orders 2, notesFrom orders 3⟩

/-- The value of notes from each cassette. -/
def valueOf (cs : Four Cassette) (notes : Four Nat) : Nat :=
  notes.c1 * cs.c1.denomination + notes.c2 * cs.c2.denomination + notes.c3 * cs.c3.denomination + notes.c4 * cs.c4.denomination

/-- The number of notes. -/
def noteCount (notes : Four Nat) : Nat := notes.c1 + notes.c2 + notes.c3 + notes.c4

/-! ## Serving (R154) -/

/-- A dispense starts (R156): the record is DISPENSING with outstanding cash B, a shortfall having been credited (R138), and
DISPENSE is sent. -/
def State.startDispense (s : State) (x : StationId) (k : SlotIdx) (r : SettleRec) (notes : Four Nat) (value : Nat) : State :=
  let t := s.station x
  let r1 := { r with state := .dispensing }
  let s1 := if value < r.outstanding then s.creditMove k r1 (r.outstanding - value) .shortfall else s.setRecord k r1
  (s1.send x (.dispense r.drop.number notes t.takePeriod)).setStationState x
    (.serving ⟨k, notes, value, t.takePeriod, .pick, s.now + Config.pickMs⟩)

/-- Serving takes head records until the queue is empty or a dispense starts (R154); at most `n` of them. -/
def State.serveN : Nat → StationId → State → State
  | 0, _, s => s
  | n + 1, x, s =>
    match (s.station x).queue with
    | [] => s
    | k :: rest =>
      let s1 := s.modStation x (fun t => { t with queue := rest })
      match s1.recordAt k with
      | none => State.serveN n x s1
      | some r =>
        let notes := breakdown (s.station x).cassettes r.outstanding
        let value := valueOf (s.station x).cassettes notes
        if value = 0 then State.serveN n x (s1.creditMove k r r.outstanding .shortfall)
        else s1.startDispense x k r notes value

/-- A station that is OPEN serves its queue (R154). -/
def State.serve (s : State) (x : StationId) : State :=
  if (s.station x).state.tag = .opened then State.serveN (s.station x).queue.length x s else s

/-! ## The end of a dispense -/

/-- A dispense ends other than by failure: the station leaves SERVING or CLOSING (R162). -/
def State.endDispense (s : State) (x : StationId) : State :=
  match (s.station x).state with
  | .serving _ => (s.setStationState x .opened).serve x
  | .closing _ => (s.setStationState x .closed).stationChanged x .request
  | _ => s

/-- The record returns to AWAITING_CLAIM with a fresh deadline (R142). -/
def State.returnRecord (s : State) (k : SlotIdx) : State :=
  match s.recordAt k with
  | some r => s.awaitClaim k r
  | none => s

/-- Every record of the queue is returned, from the head (R142). -/
def State.returnQueue (s : State) (x : StationId) : State :=
  (s.station x).queue.foldl State.returnRecord (s.modStation x (fun t => { t with queue := [] }))

/-- The whole outstanding cash becomes the unresolved amount (R141, R161). -/
def State.unresolvedMove (s : State) (x : StationId) (k : SlotIdx) (r : SettleRec) (notes : Option (Four Nat)) (step : StepTag)
    (cause : StationCause) : State :=
  let r1 := { r with unresolvedAmount := r.unresolvedAmount + r.outstanding, outstanding := 0 }
  (s.becomeFinal k r1 .unresolved).post (.unresolved r.drop.number r.drop.account x r1.unresolvedAmount notes step cause)

/-- The last fault code after a cause: that of a FAULT frame, else unchanged (R161). -/
def StationCause.fault (c : StationCause) (was : Nat) : Nat :=
  match c with
  | .code n => n
  | _ => was

/-- The station enters FAULT, keeps a fault code, reports the change and returns its queue (R161, steps 2 to 5; R163). -/
def State.enterFault (s : State) (x : StationId) (cause : StationCause) : State :=
  ((s.modStation x (fun t => { t with lastFault := cause.fault t.lastFault, state := .fault })).stationChanged x cause).returnQueue x

/-- A dispense fails (R161): before the pick its record awaits a claim again, after it the record is UNRESOLVED. -/
def State.failDispense (s : State) (x : StationId) (d : Dispense) (picked : Option (Four Nat)) (cause : StationCause) : State :=
  let s1 :=
    match s.recordAt d.slot with
    | none => s
    | some r =>
      match picked with
      | none => s.awaitClaim d.slot r
      | some _ => s.unresolvedMove x d.slot r picked d.step.tag cause
  s1.enterFault x cause

/-! ## Cassettes (R152) -/

/-- CASSETTE_LOW is due for a cassette in use whose alarm is armed and whose count is at or below its threshold. -/
def Cassette.isLow (c : Cassette) : Bool :=
  decide (c.denomination ≠ 0) && c.armed && decide (c.count ≤ c.threshold)

/-- The cassette after its test, tested only when its count fell. -/
def Cassette.tested (c : Cassette) (fell : Bool) : Cassette := if fell && c.isLow then { c with armed := false } else c

/-- The notice of its test. -/
def Cassette.notice (c : Cassette) (fell : Bool) (x : StationId) (number : Nat) : List NoticeBody :=
  if fell && c.isLow then [.cassetteLow x number c.denomination c.count] else []

/-- The four cassettes take new counts, and each whose count fell is tested, by rising number: the model's choice of order (log 28). -/
def State.setCounts (s : State) (x : StationId) (counts : Four Nat) : State :=
  let cs := (s.station x).cassettes
  let fell := cs.zip (fun c n => decide (n < c.count)) counts
  let new := cs.zip (fun c n => { c with count := n }) counts
  (s.modStation x (fun t => { t with cassettes := new.zip Cassette.tested fell })).postAll
    (new.c1.notice fell.c1 x 1 ++ new.c2.notice fell.c2 x 2 ++ new.c3.notice fell.c3 x 3 ++ new.c4.notice fell.c4 x 4)

/-- The cassettes are tested as loaded (R150), by rising number: the model's choice of order (log 28). -/
def State.testLoaded (s : State) (x : StationId) : State :=
  let cs := (s.station x).cassettes
  (s.modStation x (fun t => { t with cassettes := cs.map (fun c => c.tested true) })).postAll
    (cs.c1.notice true x 1 ++ cs.c2.notice true x 2 ++ cs.c3.notice true x 3 ++ cs.c4.notice true x 4)

/-- Some count exceeds the notes ordered from its cassette (R157). -/
def overPicked (ordered picked : Four Nat) : Bool := (ordered.zip (fun o p => decide (o < p)) picked).toList.any id

/-- The counts after an accepted pick (R157): a cassette that gave fewer notes than ordered is empty. -/
def countsAfterPick (cs : Four Cassette) (ordered picked : Four Nat) : Four Nat :=
  ⟨if picked.c1 < ordered.c1 then 0 else cs.c1.count - picked.c1, if picked.c2 < ordered.c2 then 0 else cs.c2.count - picked.c2,
   if picked.c3 < ordered.c3 then 0 else cs.c3.count - picked.c3, if picked.c4 < ordered.c4 then 0 else cs.c4.count - picked.c4⟩

/-- The counts after an over-pick: each falls by the count reported, to 0 if that exceeds it (R157). -/
def countsAfterOverPick (cs : Four Cassette) (picked : Four Nat) : Four Nat := cs.zip (fun c p => c.count - p) picked

/-! ## Claims (R134 to R137) -/

/-- A claim is answered (R137): the answer is formed, and a refusal counted. -/
def State.answer (s : State) (x : StationId) (number : Nat) (a : Answer) (extra cash : Nat) : State :=
  (s.countYard (.refused a)).send x (.answer number a extra cash)

/-- The record of a claim by number: 0 names none (R134). -/
def State.claimRecord (s : State) (number : Nat) : Option (SlotIdx × SettleRec) :=
  if number = 0 then none else s.findRecord number

/-- A wrong check code (R135). -/
def State.badCode (s : State) (x : StationId) (k : SlotIdx) (r : SettleRec) : State :=
  let n := r.badChecks + 1
  let r1 := { r with badChecks := n }
  if n < 3 then (s.setRecord k r1).answer x r.drop.number .badCheck (3 - n) 0
  else (s.creditMove k r1 r.outstanding .locked).answer x r.drop.number .locked 0 0

/-- A claim is answered QUEUED (R136), and an OPEN station serves at once (R154). -/
def State.queueClaim (s : State) (x : StationId) (k : SlotIdx) (r : SettleRec) : State :=
  let place := (s.station x).queue.length + 1
  let s1 := (s.setRecord k { r with state := .claimed }).modStation x (fun t => { t with queue := t.queue ++ [k] })
  (s1.answer x r.drop.number .queued place r.outstanding).serve x

/-- The station takes claims: OPEN or SERVING (Table 7-4, row 6). -/
def StationState.takesClaims : StationState → Bool
  | .opened => true
  | .serving _ => true
  | _ => false

/-- A claim is judged by the tests of Table 7-4 in order (R134). -/
def State.judgeClaim (s : State) (x : StationId) (number code : Nat) : State :=
  match s.claimRecord number with
  | none => s.answer x number .unknownDrop 0 0
  | some (k, r) =>
    if r.station ≠ some x then s.answer x number .wrongStation 0 0
    else
      match r.state.tag with
      | .held => s.answer x number .notReady 0 0
      | .claimed => s.answer x number .inProgress 0 0
      | .dispensing => s.answer x number .inProgress 0 0
      | .awaiting =>
        if !(s.station x).state.takesClaims then s.answer x number .stationOut 0 0
        else if code ≠ r.drop.checkCode then s.badCode x k r
        else if Config.claimQueue ≤ (s.station x).queue.length then s.answer x number .queueFull 0 0
        else s.queueClaim x k r
      | _ => s.answer x number .closedOut 0 0

/-! ## Dispense events (R157 to R161) -/

/-- PICKED is taken in step PICK (R157). -/
def State.takePick (s : State) (x : StationId) (d : Dispense) (picked : Four Nat) : State :=
  let cs := (s.station x).cassettes
  if overPicked d.ordered picked then
    (s.failDispense x d (some picked) .overpick).setCounts x (countsAfterOverPick cs picked)
  else
    let s1 := s.setCounts x (countsAfterPick cs d.ordered picked)
    let p := valueOf cs picked
    match s1.recordAt d.slot with
    | none => s1
    | some r =>
      let s2 := if p < r.outstanding then s1.creditMove d.slot r (r.outstanding - p) .shortfall else s1
      if p = 0 then s2.endDispense x
      else
        s2.modStation x (fun t => { t with state :=
          match t.state with
          | .serving d => .serving { d with step := .present picked, timeout := s.now + Config.presentMs }
          | .closing d => .closing { d with step := .present picked, timeout := s.now + Config.presentMs }
          | st => st })

/-- PRESENTED is taken in step PRESENT (R158). -/
def State.takePresented (s : State) (x : StationId) (picked : Four Nat) : State :=
  let next (d : Dispense) : Dispense :=
    { d with step := .outcome picked, timeout := s.now + (d.takePeriod + Config.outcomeExtraS) * 1000 }
  s.modStation x (fun t => { t with state :=
    match t.state with
    | .serving d => .serving (next d)
    | .closing d => .closing (next d)
    | st => st })

/-- TAKEN is taken in step OUTCOME (R159, R139). -/
def State.takePayment (s : State) (x : StationId) (d : Dispense) (picked : Four Nat) : State :=
  match s.recordAt d.slot with
  | none => s.endDispense x
  | some r =>
    let paid := r.cashPaid + r.outstanding
    let s1 := s.becomeFinal d.slot { r with cashPaid := paid, outstanding := 0 } .paid
    (s1.post (.payout r.drop.number r.drop.account x paid picked ((s.station x).cassettes.map Cassette.denomination)
      r.creditIssued)).endDispense x

/-- RETRACTED is taken in step OUTCOME (R160, R140, R153). -/
def State.takeRetract (s : State) (x : StationId) (d : Dispense) (picked : Four Nat) : State :=
  match s.recordAt d.slot with
  | none => s.endDispense x
  | some r =>
    let s1 := s.modStation x (fun t =>
      { t with retractValue := Config.fit .retractValue Config.moneyMax (t.retractValue + r.outstanding)
               retractNotes := Config.fit .retractNotes Config.retractNotesMax (t.retractNotes + noteCount picked) })
    let r1 := { r with retracts := r.retracts + 1 }
    (if r1.retracts = 1 then s1.awaitClaim d.slot r1 else s1.creditMove d.slot r1 r.outstanding .retract).endDispense x

/-- A dispenser event that its step does not expect (R161). -/
def State.outOfStep (s : State) (x : StationId) (d : Dispense) : State := s.failDispense x d d.step.picked .sequence

/-- The step timer of a dispense has run out (R161). -/
def Station.stepReached (t : Station) (now : Nat) : Bool :=
  match t.state.dispense with
  | some d => decide (d.timeout ≤ now)
  | none => false

/-- A dispenser FAULT frame (R161, R163). -/
def State.dispenserFault (s : State) (x : StationId) (code : Nat) : State :=
  match (s.station x).state with
  | .serving d => s.failDispense x d d.step.picked (.code code)
  | .closing d => s.failDispense x d d.step.picked (.code code)
  | .opened => s.enterFault x (.code code)
  | _ => (s.modStation x (fun t => { t with lastFault := code })).stationChanged x (.code code)

/-- The link becomes LOST, with what the station state makes of it (R146). -/
def State.loseLink (s : State) (x : StationId) : State :=
  let s1 := s.modStation x (fun t => { t with link := .lost })
  match (s.station x).state with
  | .serving d => s1.failDispense x d d.step.picked .link
  | .closing d => s1.failDispense x d d.step.picked .link
  | .opened => s1.enterFault x .link
  | _ => s1.stationChanged x .link

/-! ## Station frames by kind (R145) -/

/-- PICKED (R157, R161). -/
def State.pickedArrives (s : State) (x : StationId) (picked : Four Nat) : State :=
  match (s.station x).state.dispense with
  | none => s
  | some d =>
    match d.step with
    | .pick => s.takePick x d picked
    | _ => s.outOfStep x d

/-- PRESENTED (R158, R161). -/
def State.presentedArrives (s : State) (x : StationId) : State :=
  match (s.station x).state.dispense with
  | none => s
  | some d =>
    match d.step with
    | .present picked => s.takePresented x picked
    | _ => s.outOfStep x d

/-- TAKEN (R159, R161). -/
def State.takenArrives (s : State) (x : StationId) : State :=
  match (s.station x).state.dispense with
  | none => s
  | some d =>
    match d.step with
    | .outcome picked => s.takePayment x d picked
    | _ => s.outOfStep x d

/-- RETRACTED (R160, R161). -/
def State.retractedArrives (s : State) (x : StationId) : State :=
  match (s.station x).state.dispense with
  | none => s
  | some d =>
    match d.step with
    | .outcome picked => s.takeRetract x d picked
    | _ => s.outOfStep x d

/-- A frame that ends on a station link, taken by its kind when it is valid (R145, R146). -/
def State.stationFrame (s : State) (x : StationId) (f : Option StationFrame) : State :=
  match f with
  | none => s.modStation x (fun t => { t with rx := .hunting })
  | some .ready => s.linkFrame x
  | some (.claim n c) => ((s.linkFrame x).judgeClaim x n c).enterParked
  | some (.picked notes) => ((s.linkFrame x).pickedArrives x notes).enterParked
  | some .presented => ((s.linkFrame x).presentedArrives x).enterParked
  | some .taken => ((s.linkFrame x).takenArrives x).enterParked
  | some .retracted => ((s.linkFrame x).retractedArrives x).enterParked
  | some (.fault c) => ((s.linkFrame x).dispenserFault x c).enterParked

end Sys2Proof.Machine
end

