-- ==== Sys2Proof/Machine/Views.lean ====
section
/-! DEFINITION. What the get requests report: a lane (R42, R16, R34), a drop (R121, Table 10-5), a record (R144, Table 10-6), a station
(R151), the part (R181) and a sighting (R92). -/

namespace Sys2Proof.Machine

/-- A gate state by its place in Table 1-1. -/
def Gate.number : Gate → Nat
  | .idle => 0
  | .enter _ => 1
  | .span _ => 2
  | .exit _ => 3
  | .exitEnter _ _ => 4
  | .back _ => 5
  | .backSpan _ => 6
  | .backExit _ => 7
  | .fault _ _ => 8
  | .reset => 9

/-- A head state by its place in R20. -/
def HeadState.number : HeadState → Nat
  | .off => 0
  | .present _ => 1
  | .lost => 2

/-- A LANE.GET reply (R42). -/
def Lane.view (l : Lane) (now : Nat) : LaneView :=
  { state := l.state, drop := l.drop.map (fun d => d.record.number), cfg := l.cfg, gate := l.gate.number,
    faultBeams := l.gate.beamFault, blockedA := l.beamA.settled, blockedB := l.beamB.settled, head := l.head.number,
    lastFault := l.lastFault, measure := l.measure.map (fun m => (m.value, now - m.arrival)),
    early := l.early.map HeldCode.code, windowCode := l.gate.atA.map FwdItem.code, graceRuns := l.grace.isSome,
    waits := l.waiting.isSome, occupancy := l.occupancy, peak := l.peak, latch := l.latch, pacing := l.pacing,
    degraded := l.degraded, windowItems := l.window.length, windowBad := badCount l.window, rejects := l.rejects.length,
    newestReject := l.rejects.head?.map (fun e => now - e.completed) }

/-- The place of a thing in a list, counted from 1; 0 when it is not there. -/
def placeIn {α : Type} [DecidableEq α] (x : α) : List α → Nat
  | [] => 0
  | y :: ys => if x = y then 1 else match placeIn x ys with | 0 => 0 | n + 1 => n + 2

def DropState.tag : DropState → DropTag
  | .opened => .opened
  | .draining _ => .draining
  | .parked => .parked

/-- The summary of a lane drop (R121). -/
def State.laneDropView (s : State) (i : LaneIdx) (d : LaneDrop) : DropView :=
  { record := d.record, tag := d.state.tag, amount := d.record.amount, classified := d.record.classified,
    sinceClose := match d.state with | .draining closedAt => some (s.now - closedAt) | _ => none
    toQuiet := match (s.lane i).quietPoint with | some q => if s.now < q then some (q - s.now) else none | none => none
    place := match d.state with | .parked => placeIn i s.parkOrder | _ => 0 }

/-- The drop summary of a record (R121): its amount is the record's amount field. -/
def SettleRec.dropView (r : SettleRec) : DropView :=
  { record := r.drop, tag := .record r.state.tag, amount := r.amount, classified := r.drop.classified, sinceClose := none,
    toQuiet := none, place := 0 }

/-- The whole seconds of a time, rounded up. -/
def secondsUp (ms : Nat) : Nat := (ms + 999) / 1000

/-- The record summary (R144). -/
def State.recordView (s : State) (k : SlotIdx) (r : SettleRec) : RecordView :=
  { slot := k, number := r.drop.number, tag := r.state.tag, reasons := r.reasons, amount := r.amount, cashPart := r.cashPart,
    creditIssued := r.creditIssued, cashPaid := r.cashPaid, outstanding := r.outstanding, unresolvedAmount := r.unresolvedAmount,
    deadline := match r.state with | .awaiting t => some (secondsUp (t - s.now)) | _ => none
    queuePlace := match r.station with | some x => placeIn k (s.station x).queue | none => 0
    finalStamp := r.finalStamp, finalPlace := placeIn k s.finalOrder, retracts := r.retracts, badChecks := r.badChecks }

/-- The three counts of R144 with a record, or with none. -/
def State.recordResult (s : State) (entry : Option (SlotIdx × SettleRec)) : Result :=
  .record (entry.map (fun p => (s.recordView p.1 p.2, p.2.dropView))) s.store.length s.finalOrder.length s.parkOrder.length

/-- The drop number of a slot's record. -/
def State.numberOf (s : State) (k : SlotIdx) : Nat :=
  match s.recordAt k with
  | some r => r.drop.number
  | none => 0

/-- A STATION.GET reply (R151). -/
def State.stationView (s : State) (x : StationId) : StationView :=
  let t := s.station x
  { state := t.state.tag, up := t.link.isUp, lastFault := t.lastFault, cassettes := t.cassettes, claimPeriod := t.claimPeriod,
    takePeriod := t.takePeriod, retractValue := t.retractValue, retractNotes := t.retractNotes, queue := t.queue.map s.numberOf,
    dispense := t.state.dispense.map (fun d =>
      { number := s.numberOf d.slot, ordered := d.ordered, value := d.value, step := d.step.tag, picked := d.step.picked,
        timeLeft := d.timeout - s.now }) }

/-- A PART.PING reply (R181). -/
def State.pingView (s : State) : PingView :=
  { lanes := allLanes.map (fun i => (s.lane i).state),
    stations := [(s.stationA.state.tag, s.stationA.link.isUp), (s.stationB.state.tag, s.stationB.link.isUp)],
    clock := s.host.clock, notices := s.host.notices.length, latch := s.host.latch, waiting := s.host.reqBuf.length }

/-- The place of a keg's entry, counted from 1 at the oldest. -/
def sightingPlace (list : List Sighting) (e : Sighting) : Nat := placeIn e list

/-- A SIGHT.FIND entry (R92). -/
def State.sightView (s : State) (e : Sighting) : SightView :=
  { owner := e.owner, serial := e.serial, firstLane := e.firstLane, firstDrop := e.firstDrop, elapsed := (s.now - e.lastSeen) / 1000,
    repeats := e.repeats, place := sightingPlace s.sightings e }

/-- The size of the list and the elapsed seconds of its oldest entry, with an entry or none (R92). -/
def State.sightResult (s : State) (entry : Option Sighting) : Result :=
  .sight (entry.map s.sightView) s.sightings.length (s.sightings.head?.map (fun e => (s.now - e.lastSeen) / 1000))

/-- What every refusal of a request of this kind carries: the counts of R63, R66, R70, R92 and R144, else nothing. -/
def State.refusalResult (s : State) (kind : Byte) : Result :=
  if kind = 0x22 then .classEntry none s.tables.classes.length
  else if kind = 0x2A then .markEntry none s.tables.marks.length
  else if kind = 0x3A then .accountEntry none s.tables.accounts.length
  else if kind = 0x41 then s.sightResult none
  else if kind = 0x52 then s.recordResult none
  else .none

/-- A request whose body is none its kind allows is taken from the head of the buffer and answered RANGE (R176), with the counts that every
reply of its kind carries (log 19). -/
def takeMalformed (f : Frame) (rest : List Frame) (s : State) : State :=
  let s1 := { s with host := { s.host with reqBuf := rest } }
  (Answered.mk s1 .range (s1.refusalResult f.kind)).reply f

end Sys2Proof.Machine
end

