-- ==== Sys2Proof/Machine/DropRequests.lean ====
section
/-! DEFINITION. The meanings of the DROP requests (R101 to R121). -/

namespace Sys2Proof.Machine

/-! ## DROP.OPEN (R101 to R103) -/

/-- No lane drop and no record holds the number. -/
def State.numberFree (s : State) (n : Nat) : Bool :=
  match s.holder n with
  | .nobody => true
  | _ => false

/-- The `k`-th number after one, counting 65,535 on to 1 and leaving out 0 (R103). -/
def numberAfter (last k : Nat) : Nat := (last + k) % 65535 + 1

/-- The number DROP.OPEN assigns: the first free one within 39 steps (R103). -/
def State.nextDropNumber (s : State) : Nat :=
  match (List.range 39).find? (fun k => s.numberFree (numberAfter s.lastDrop k)) with
  | some k => numberAfter s.lastDrop k
  | none => numberAfter s.lastDrop 0

/-- The position of the check generator after one (R103). -/
def nextCheckPos (p : Nat) : Nat := (p + 1) % 10000

/-- The check code at a position (R103). -/
def checkCodeAt (p : Nat) : Nat := (p * 7321 + 4409) % 10000

/-- The record of a drop as it is opened (Table 6-1). -/
def DropRec.atOpening (number : Nat) (lane : LaneIdx) (account : Nat) (driver : List Byte) (declarations : List Declaration)
    (checkCode openStamp firstSeq : Nat) : DropRec :=
  { number := number, lane := lane, account := account, driver := driver, declarations := declarations, checkCode := checkCode,
    lines := [], unresolved := .zero, reverse := 0, long := 0, rejects := 0, gateFault := false, drainCut := false,
    openStamp := openStamp, drainEndStamp := none, firstSeq := firstSeq, lastSeq := none, station := none }

/-- The steps of a DROP.OPEN that is taken (R102). -/
def State.openDrop (s : State) (i : LaneIdx) (account : Nat) (driver : List Byte) (declarations : List Declaration) : Answered :=
  let s1 := s.handOverWaiting i
  let number := s1.nextDropNumber
  let pos := nextCheckPos s1.checkPos
  let code := checkCodeAt pos
  let s2 := { s1 with lastDrop := number, checkPos := pos }.detachSightings number
  let d := DropRec.atOpening number i account driver declarations code s2.host.clock (s2.seqNext i)
  let s3 := s2.modLane i (fun l => { l with drop := some ⟨d, .opened⟩ })
  ⟨s3.journalWrite i (.dropOpen number account driver declarations), .ok, .opened number code⟩

/-- What DROP.OPEN does: the tests of R101 in order, then the steps of R102. -/
def State.dropOpen (s : State) (lane account : Nat) (driver : List Byte) (declarations : List Declaration) : Answered :=
  match laneOf lane with
  | none => refuse s .range
  | some i =>
    if within 1 65535 account && driverInRange driver && declarationsInRange declarations then
      if (s.lane i).state = .idle then
        let s1 := s.examineAccounts
        match s1.accountOf account with
        | none => refuse s1 .absent
        | some (_, a) =>
          let s2 := s1.examinePoolAt a.pool
          match s2.poolAt a.pool with
          | none => refuse s2 .absent
          | some _ =>
            if a.state = .suspended then refuse s2 .state
            else s2.openDrop i account driver declarations
      else refuse s .state
    else refuse s .range

/-- DROP_OPEN. -/
def execDropOpen (tag : Byte) (lane account : Nat) (driver : List Byte) (declarations : List Declaration) (s : State) : Outcome :=
  request (.dropOpen tag lane account driver declarations) (fun s => s.dropOpen lane account driver declarations) id s

/-! ## DROP.CLOSE (R105) -/

/-- What DROP.CLOSE does. -/
def State.dropClose (s : State) (number : Nat) : Answered :=
  if number = 0 then refuse s .range
  else
    match s.holder number with
    | .nobody => refuse s .absent
    | .record _ _ => refuse s .state
    | .laneDrop i d =>
      match d.state with
      | .opened => ⟨s.modLane i (fun l => { l with drop := some ⟨d.record, .draining s.now⟩ }), .ok, .none⟩
      | _ => refuse s .state

/-- The drain is tested at once after the close, its notices following the reply (R105, R106; log 25). -/
def State.afterClose (s : State) (number : Nat) : State :=
  match s.findLaneDrop number with
  | some (i, _) => s.quietTest i
  | none => s

/-- DROP_CLOSE. -/
def execDropClose (tag : Byte) (number : Nat) (s : State) : Outcome :=
  request (.dropClose tag number) (fun s => s.dropClose number) (fun s => s.afterClose number) s

/-! ## DROP.RESOLVE (R116, R117) -/

/-- The items and units that the entries of one cause ask for together. -/
def askedItems (es : List ResolveEntry) (c : Cause) : Nat := ((es.filter (fun e => decide (e.cause = c))).map ResolveEntry.items).sum
def askedUnits (es : List ResolveEntry) (c : Cause) : Nat := ((es.filter (fun e => decide (e.cause = c))).map ResolveEntry.units).sum

/-- The six causes. -/
def allCauses : List Cause := [.unread, .multiCode, .noMeasure, .unknownCode, .wrongLane, .linesFull]

/-- The fourth test of R116 passes for a cause that some entry names. -/
def causeCovers (u : Unresolved) (es : List ResolveEntry) (c : Cause) : Bool :=
  let i := askedItems es c
  let n := askedUnits es c
  let t := u.get c
  decide (i = 0) ||
  (decide (i ≤ t.items) && decide (n ≤ t.units) && decide (t.items - i ≤ t.units - n) && decide (t.units - n ≤ 12 * (t.items - i)))

/-- One entry applied (R117). -/
def DropRec.resolve (d : DropRec) (e : ResolveEntry) : DropRec :=
  let t := d.unresolved.get e.cause
  { d with
    unresolved := d.unresolved.set e.cause ⟨t.items - e.items, t.units - e.units⟩
    lines := addToLine d.lines (some e.cls) .resolved e.value e.items e.units }

/-- The fifth test of R116 passes: the lines that result stay within 32, and no RESOLVED line passes 65,535 items. -/
def linesFit (lines : List Line) : Bool :=
  decide (lines.length ≤ Config.lineCount) &&
  lines.all (fun l => !decide (l.disposition = .resolved) || decide (l.items ≤ Config.lineItems))

/-- What DROP.RESOLVE does: the tests of R116 in order, then R117. -/
def State.dropResolve (s : State) (number : Nat) (args : List ResolveArgs) : Answered :=
  match resolveEntriesOf args with
  | none => refuse s .range
  | some es =>
    if number = 0 then refuse s .range
    else
      match s.holder number with
      | .nobody => refuse s .absent
      | .laneDrop _ _ => refuse s .state
      | .record k r =>
        if r.state = .held then
          let d := es.foldl DropRec.resolve r.drop
          if !allCauses.all (causeCovers r.drop.unresolved es) then refuse s .range
          else if !linesFit d.lines then refuse s .full
          else ⟨s.setRecord k { r with drop := d, amount := d.amount }, .ok, .resolved d.amount d.unresolved.items d.lines.length⟩
        else refuse s .state

/-- DROP_RESOLVE. -/
def execDropResolve (tag : Byte) (number : Nat) (entries : List ResolveArgs) (s : State) : Outcome :=
  request (.dropResolve tag number entries) (fun s => s.dropResolve number entries) id s

/-! ## DROP.APPROVE (R118) -/

/-- Every unresolved item is written off (R118, step 1). -/
def DropRec.writeOff (d : DropRec) : DropRec :=
  if d.unresolved.items = 0 then d
  else { d with lines := addToLine d.lines none .writtenOff 0 d.unresolved.items d.unresolved.units, unresolved := .zero }

/-- The write-off has room (R118): a WRITTEN_OFF line or fewer than 32 lines, and at most 65,535 items. -/
def DropRec.writeOffFits (d : DropRec) : Bool :=
  (d.lines.any (fun l => decide (l.disposition = .writtenOff)) || decide (d.lines.length < Config.lineCount)) &&
  decide (d.unresolved.items ≤ Config.lineItems)

/-- The reply to an approval that was taken: the amount and the state reached. -/
def State.approved (s : State) (k : SlotIdx) (amount : Nat) : Answered :=
  ⟨s, .ok, .approved amount (match s.recordAt k with | some r => r.state.tag | none => .credited)⟩

/-- What DROP.APPROVE does (R118). -/
def State.dropApprove (s : State) (number : Nat) (writeOff : Bool) : Answered :=
  if number = 0 then refuse s .range
  else
    match s.holder number with
    | .nobody => refuse s .absent
    | .laneDrop _ _ => refuse s .state
    | .record k r =>
      if r.state = .held then
        if r.drop.unresolved.items = 0 then (s.settle k r).approved k r.amount
        else if !writeOff then refuse s .state
        else if !r.drop.writeOffFits then refuse s .full
        else
          let r1 := { r with drop := r.drop.writeOff }
          ((s.setRecord k r1).settle k r1).approved k r1.amount
      else refuse s .state

/-- DROP_APPROVE: a parked drop enters after the reply (R129, R111). -/
def execDropApprove (tag : Byte) (number : Nat) (writeOff : Bool) (s : State) : Outcome :=
  request (.dropApprove tag number writeOff) (fun s => s.dropApprove number writeOff) State.enterParked s

/-! ## DROP.ABANDON (R119, R120) -/

/-- The state a lane drop is abandoned from. -/
def DropState.source : DropState → AbandonedFrom
  | .opened => .opened
  | .draining _ => .draining
  | .parked => .parked

/-- The steps of an abandonment on the lane (R119). -/
def State.abandonOnLane (s : State) (i : LaneIdx) (d : LaneDrop) : State :=
  let s1 := match d.state with | .parked => s | _ => s.handOverWaiting i
  let record := match (s1.lane i).drop with | some d => d.record | none => d.record
  let n := record.number
  let s2 := { s1 with parkOrder := s1.parkOrder.filter (fun j => decide (j ≠ i)) }
  let s3 := s2.modLane i (fun l => { l with rejects := [] })
  let s4 := s3.journalWrite i (.dropClose n .abandoned record.classified record.amount)
  let removed := s4.sightingsOf n
  ((s4.removeSightings n).modLane i (fun l => { l with drop := none })).post (.dropVoid n i d.state.source removed)

/-- A HELD record becomes VOID (R120). -/
def State.voidRecord (s : State) (k : SlotIdx) (r : SettleRec) : State :=
  let n := r.drop.number
  let r1 := { r with amount := 0, cashPart := 0, cashPaid := 0, creditIssued := 0, outstanding := 0, unresolvedAmount := 0 }
  let removed := s.sightingsOf n
  ((s.becomeFinal k r1 .void).removeSightings n).post (.dropVoid n r.drop.lane .held removed)

/-- What DROP.ABANDON does. -/
def State.dropAbandon (s : State) (number : Nat) : Answered :=
  if number = 0 then refuse s .range
  else
    match s.holder number with
    | .nobody => refuse s .absent
    | .laneDrop i d => ⟨s.abandonOnLane i d, .ok, .none⟩
    | .record k r => if r.state = .held then ⟨s.voidRecord k r, .ok, .none⟩ else refuse s .state

/-- DROP_ABANDON: a VOID record frees room for a parked drop (R120, R111). -/
def execDropAbandon (tag : Byte) (number : Nat) (s : State) : Outcome :=
  request (.dropAbandon tag number) (fun s => s.dropAbandon number) State.enterParked s

/-! ## DROP.GET (R121, R185) -/

/-- The line records of one LINES reply: up to 20 from the first line (R185). -/
def linesFrom (lines : List Line) (first : Nat) : List Line := (lines.drop first).take 20

/-- The reply of DROP.GET for a drop found. -/
def dropResult (part : DropPart) (view : DropView) (record : Option RecordView) : Result :=
  match part with
  | .summary => .dropSummary view record
  | .lines first => .dropLines view.record.number view.record.lines.length first (linesFrom view.record.lines first)

/-- The part asked for lies in its range (R185). -/
def partInRange : DropPart → Bool
  | .summary => true
  | .lines first => decide (first ≤ 31)

/-- What DROP.GET answers. -/
def State.dropGet (s : State) (sel : DropSel) (part : DropPart) : Answered :=
  if partInRange part then
    match sel with
    | .number n =>
      if n = 0 then refuse s .range
      else
        match s.holder n with
        | .nobody => refuse s .absent
        | .laneDrop i d => ⟨s, .ok, dropResult part (s.laneDropView i d) none⟩
        | .record k r => ⟨s, .ok, dropResult part r.dropView (some (s.recordView k r))⟩
    | .lane lane =>
      match laneOf lane with
      | none => refuse s .range
      | some i =>
        match (s.lane i).drop with
        | none => refuse s .absent
        | some d => ⟨s, .ok, dropResult part (s.laneDropView i d) none⟩
  else refuse s .range

/-- DROP_GET. -/
def execDropGet (tag : Byte) (sel : DropSel) (part : DropPart) (s : State) : Outcome :=
  request (.dropGet tag sel part) (fun s => s.dropGet sel part) id s

end Sys2Proof.Machine
end

