-- ==== Sys2Proof/Machine/Gate.lean ====
section
/-! DEFINITION. The meanings of the gate's commands (chapter 1). An expiry command whose timer has not run changes nothing (log 2). -/

namespace Sys2Proof.Machine

/-- BEAM_LINE_CHANGE (R1). -/
def execBeamLineChange (i : LaneIdx) (x : Beam) (high : Bool) (s : State) : Outcome :=
  if s.rstHeld then .next (s.modLane i (fun l => l.setBeam x ((l.beam x).lineOnly high)))
  else event (fun s => s.modLane i (fun l => l.setBeam x ((l.beam x).lineChange high s.now))) s

/-- The settled level of a beam changes and the edge is delivered (R1, R3); the drain is tested after it (R106). -/
def State.beamEdge (s : State) (i : LaneIdx) (x : Beam) : State :=
  let d := ((s.lane i).beam x).settle
  ((s.modLane i (fun l => l.setBeam x d)).deliverEdge i x d.settled).quietTest i

/-- BEAM_EDGE (R3). -/
def execBeamEdge (i : LaneIdx) (x : Beam) (s : State) : Outcome :=
  event (fun s => if ((s.lane i).beam x).ran Config.beamHoldMs s.now then s.beamEdge i x else s) s

/-- LONG_LIMIT (R12). -/
def execLongLimit (i : LaneIdx) (s : State) : Outcome :=
  event (fun s => if (s.lane i).longReached s.now then s.modLane i (fun l => { l with gate := l.gate.setLong }) else s) s

/-- STUCK_LIMIT (R13, R14). -/
def execStuckLimit (i : LaneIdx) (x : Beam) (s : State) : Outcome :=
  event (fun s => if (s.lane i).stuckReached x s.now then s.declareFault i ((s.lane i).stuckBeams x s.now) else s) s

/-- FAULT_CLEAR (R15); the drain is tested after it (R106). -/
def execFaultClear (i : LaneIdx) (s : State) : Outcome :=
  event (fun s => if (s.lane i).faultClearReached s.now then (s.clearFault i).quietTest i else s) s

end Sys2Proof.Machine
end

