-- ==== Sys2Proof/Machine/HostLinkOps.lean ====
section
/-! DEFINITION. The host receiver (R175): bytes, whole frames, discards. -/

namespace Sys2Proof.Machine

/-- The receiver hunts again (R175). -/
def State.hostHunts (s : State) : State := { s with host := { s.host with rx := .hunting } }

/-- The receiver assembles these bytes, the last of them now. -/
def State.hostAssembles (s : State) (bytes : List Byte) : State :=
  { s with host := { s.host with rx := .assembling bytes s.now } }

/-- A host frame completes (R175, R176): joined to the buffer, or discarded. -/
def State.frameCompletes (s : State) (f : Frame) (check : Check) : State :=
  if Config.bodyMax < f.body.length then s.hostHunts.linkFault .length 0 0
  else if check = f.check then s.hostHunts.bufferRequest f
  else s.hostHunts.linkFault .check 0 0

/-- The frame that the bytes after a start byte make up, once they are all there: length, kind, tag, body, check, the check read low
byte first: the model's choice (log 31). -/
def assembled (bytes : List Byte) : Option (Frame × Check) :=
  match bytes with
  | len :: kind :: tag :: rest =>
    if rest.length = len.toNat + 2 then
      match rest.drop len.toNat with
      | [lo, hi] => some (⟨kind, tag, rest.take len.toNat⟩, hi ++ lo)
      | _ => none
    else none
  | _ => none

/-- The bytes so far are a length byte above 240 (R175). -/
def tooLong (bytes : List Byte) : Bool :=
  match bytes with
  | [len] => decide (Config.bodyMax < len.toNat)
  | _ => false

/-- A byte arrives on HOST_RX (R175). -/
def State.hostByte (s : State) (byte : Byte) (stopOk : Bool) : State :=
  match s.host.rx with
  | .hunting => if stopOk && decide (byte = Config.startByte) then s.hostAssembles [] else s
  | .assembling bytes _ =>
    if stopOk then
      let now := bytes ++ [byte]
      if tooLong now then s.hostHunts.linkFault .length 0 0
      else
        match assembled now with
        | some (f, check) => s.frameCompletes f check
        | none => s.hostAssembles now
    else s.hostHunts.linkFault .check 0 0

/-- The clock steps once 1,000 ms have passed since it was last set or stepped (R180). -/
def State.clockDue (s : State) : Bool := decide (s.host.clockBase + Config.clockStepMs ≤ s.now)

/-- One step of the yard clock (R180). -/
def State.clockStep (s : State) : State :=
  { s with host := { s.host with clock := raise32 s.host.clock, clockBase := s.host.clockBase + Config.clockStepMs } }

end Sys2Proof.Machine
end

