-- ==== Sys2Proof/Machine/HostLink.lean ====
section
/-! DEFINITION. The meanings of the host link's own commands (R175 to R177, R180) and of a request of no known kind (R176). -/

namespace Sys2Proof.Machine

/-- HOST_BYTE_RECEIVED (R175). -/
def execHostByteReceived (byte : Byte) (stopOk : Bool) (s : State) : Outcome := event (fun s => s.hostByte byte stopOk) s

/-- HOST_FRAME (R175, R176): a frame completes, whatever its bytes did to the receiver before (log 5). -/
def execHostFrame (f : Frame) (check : Check) (s : State) : Outcome := event (fun s => s.frameCompletes f check) s

/-- HOST_BYTE_TIMEOUT (R175). -/
def execHostByteTimeout (s : State) : Outcome :=
  event (fun s => if s.host.rx.gapReached s.now then s.hostHunts.linkFault .length 0 0 else s) s

/-- TRANSMIT_DONE (R177): the frame ends; the next begins at the end of the event (log 7). -/
def execTransmitDone (s : State) : Outcome := event (fun s => { s with host := { s.host with tx := none } }) s

/-- YARD_CLOCK_STEP (R180). -/
def execYardClockStep (s : State) : Outcome := event (fun s => if s.clockDue then s.clockStep else s) s

/-- UNKNOWN_REQUEST (R176). -/
def execUnknownRequest (tag kind : Byte) (s : State) : Outcome :=
  request (.unknownRequest tag kind) (fun s => refuse s .unknown) id s

end Sys2Proof.Machine
end

