-- ==== Sys2Proof/Machine/LaneControl.lean ====
section
/-! DEFINITION. The meanings of the take-off and reject lines' commands (R43, R45, R54 to R56). -/

namespace Sys2Proof.Machine

/-- TAKEOFF_LINE_CHANGE (R43). -/
def execTakeoffLineChange (i : LaneIdx) (high : Bool) (s : State) : Outcome :=
  if s.rstHeld then .next (s.modLane i (fun l => { l with takeoff := l.takeoff.lineOnly high }))
  else event (fun s => s.modLane i (fun l => { l with takeoff := l.takeoff.lineChange high s.now })) s

/-- TAKEOFF_PULSE (R43, R45): in OFF the settled rise is discarded. -/
def execTakeoffPulse (i : LaneIdx) (s : State) : Outcome :=
  event (fun s =>
    let l := s.lane i
    if l.takeoff.ran Config.beamHoldMs s.now && !l.takeoff.settled then
      let s1 := s.modLane i (fun l => { l with takeoff := l.takeoff.settle })
      if l.inService then s1.takeOff i else s1
    else s) s

/-- TAKEOFF_SETTLED_FALL (R43). -/
def execTakeoffSettledFall (i : LaneIdx) (s : State) : Outcome :=
  event (fun s =>
    let l := s.lane i
    if l.takeoff.ran Config.beamHoldMs s.now && l.takeoff.settled then
      s.modLane i (fun l => { l with takeoff := l.takeoff.settle })
    else s) s

/-- REJECT_LINE_CHANGE (R55). -/
def execRejectLineChange (i : LaneIdx) (high : Bool) (s : State) : Outcome :=
  if s.rstHeld then .next (s.modLane i (fun l => { l with reject := l.reject.lineOnly high }))
  else event (fun s => s.modLane i (fun l => { l with reject := l.reject.lineChange high s.now })) s

/-- REJECT_PRESS (R55, R56): in OFF the settled press is discarded. -/
def execRejectPress (i : LaneIdx) (s : State) : Outcome :=
  event (fun s =>
    let l := s.lane i
    if l.reject.ran Config.rejectHoldMs s.now && !l.reject.settled then
      let s1 := s.modLane i (fun l => { l with reject := l.reject.settle })
      if l.inService then s1.press i else s1
    else s) s

/-- REJECT_SETTLED_RELEASE (R55). -/
def execRejectSettledRelease (i : LaneIdx) (s : State) : Outcome :=
  event (fun s =>
    let l := s.lane i
    if l.reject.ran Config.rejectHoldMs s.now && l.reject.settled then
      s.modLane i (fun l => { l with reject := l.reject.settle })
    else s) s

/-- REJECT_WINDOW_EXPIRY (R54): the oldest entry leaves. -/
def execRejectWindowExpiry (i : LaneIdx) (s : State) : Outcome :=
  event (fun s =>
    if (s.lane i).rejectReached s.now then s.modLane i (fun l => { l with rejects := l.rejects.dropLast }) else s) s

end Sys2Proof.Machine
end

