-- ==== Sys2Proof/Machine/Layouts.lean ====
section
/-! DEFINITION. The bytes of what the part sends and reports: journal entries (Table 10-7, R185), replies, notices (Table 10-4) and
station frames (Table 10-9), by R184. Sizes and orders that the manual does not state in a table are read from R184 (log 18). -/

namespace Sys2Proof.Machine

/-! ## Enumerations -/

def StationId.number : StationId → Nat
  | .a => 0
  | .b => 1

def FaultBeams.number : FaultBeams → Nat
  | .a => 0
  | .b => 1
  | .both => 2

def Disposition.number : Disposition → Nat
  | .accepted => 0
  | .heavy => 1
  | .full => 2
  | .repeated => 3
  | .barred => 4
  | .refused => 5
  | .damaged => 6
  | .resolved => 7
  | .writtenOff => 8

def Cause.number : Cause → Nat
  | .unread => 0
  | .multiCode => 1
  | .noMeasure => 2
  | .unknownCode => 3
  | .wrongLane => 4
  | .linesFull => 5

def CaptureCause.number : CaptureCause → Nat
  | .ok => 0
  | .unread => 1
  | .multiCode => 2
  | .noMeasure => 3

/-- The outcome of an ITEM entry: the six line dispositions of the ladder, then the causes from 6 (Table 10-7). -/
def ItemOutcome.number : ItemOutcome → Nat
  | .line d => d.number
  | .unresolved c => c.number + 6

def Form.number : Form → Nat
  | .layers => 0
  | .weight => 1

def LaneKind.number : LaneKind → Nat
  | .crate => 0
  | .keg => 1

def Binding.number : Binding → Nat
  | .a => 0
  | .b => 1
  | .none => 2

def Pacing.number : Pacing → Nat
  | .stop => 0
  | .slow => 1
  | .run => 2

def LaneState.number : LaneState → Nat
  | .off => 0
  | .idle => 1
  | .opened => 2
  | .draining => 3
  | .parked => 4

def RecordTag.number : RecordTag → Nat
  | .held => 0
  | .awaiting => 1
  | .claimed => 2
  | .dispensing => 3
  | .paid => 4
  | .credited => 5
  | .unresolved => 6
  | .void => 7

/-- The state byte of the drop and record summaries (Tables 10-5, 10-6). -/
def DropTag.number : DropTag → Nat
  | .opened => 0
  | .draining => 1
  | .parked => 2
  | .record tag => tag.number + 3

def AbandonedFrom.number : AbandonedFrom → Nat
  | .opened => 0
  | .draining => 1
  | .parked => 2
  | .held => 3

def HoldReason.number : HoldReason → Nat
  | .unresolved => 0
  | .declared => 1
  | .reverse => 2
  | .long => 3
  | .gateFault => 4
  | .drainCut => 5
  | .suspended => 6
  | .overLimit => 7

def AlertReason.number : AlertReason → Nat
  | .barred => 0
  | .full => 1
  | .inspect => 2

/-- The reasons in the order R127 lists them, SETTLE last. -/
def CreditReason.number : CreditReason → Nat
  | .expired => 0
  | .locked => 1
  | .forced => 2
  | .shortfall => 3
  | .retract => 4
  | .settle => 5

def StationTag.number : StationTag → Nat
  | .closed => 0
  | .opened => 1
  | .serving => 2
  | .closing => 3
  | .fault => 4

def StepTag.number : StepTag → Nat
  | .pick => 0
  | .present => 1
  | .outcome => 2

def TableName.number : TableName → Nat
  | .cls => 0
  | .mark => 1
  | .pool => 2
  | .account => 3

/-- No rule lists the two causes together: POWER 0, RESTART 1 is the model's choice (log 29). -/
def UpCause.number : UpCause → Nat
  | .power => 0
  | .restart => 1

/-- No rule lists the three causes together: CHECK 0, LENGTH 1, OVERRUN 2 is the model's choice (log 29). -/
def LinkCause.number : LinkCause → Nat
  | .check => 0
  | .length => 1
  | .overrun => 2

def DropEnd.number : DropEnd → Nat
  | .quiet => 0
  | .cut => 1
  | .abandoned => 2

def Direction.number : Direction → Nat
  | .forward => 0
  | .reversing => 1

def Status.number : Status → Nat
  | .ok => 0
  | .state => 1
  | .full => 2
  | .range => 3
  | .absent => 4
  | .duplicate => 5
  | .inUse => 6
  | .unknown => 7

/-- The answers of a claim: QUEUED, then the order of Table 7-4 (Table 10-9). -/
def Answer.number : Answer → Nat
  | .queued => 0
  | .unknownDrop => 1
  | .wrongStation => 2
  | .notReady => 3
  | .inProgress => 4
  | .closedOut => 5
  | .stationOut => 6
  | .badCheck => 7
  | .locked => 8
  | .queueFull => 9

def Mark.number : Mark → Nat
  | .barred => 0
  | .inspect => 1

def PayoutMode.number : PayoutMode → Nat
  | .cash => 0
  | .credit => 1
  | .split => 2

def AccountState.number : AccountState → Nat
  | .active => 0
  | .suspended => 1

/-! ## Pieces -/

def byteOf (n : Nat) : List Byte := leBytes 1 n

def laneByte (i : LaneIdx) : List Byte := byteOf (i.val + 1)

/-- A set of up to 8 values, the first in the lowest bit (R184). -/
def setByte (numbers : List Nat) : List Byte := byteOf (numbers.foldl (fun s n => s ||| 2 ^ n) 0)

/-- Bytes up to a fixed size, then zeros. -/
def padTo (n : Nat) (bs : List Byte) : List Byte := bs.take n ++ List.replicate (n - bs.length) 0

/-- Four bytes, 0xFFFFFFFF when absent (Tables 10-5, 10-6). -/
def orOnes (v : Option Nat) : List Byte := leBytes 4 (v.getD Config.word32Max)

def Stamp.bytes (t : Stamp) : List Byte := leBytes 4 t.clock ++ leBytes 2 t.ms

/-- A code as a field: owner 2, type 1, serial 3. -/
def Code.bytes (c : Code) : List Byte := leBytes 2 c.owner ++ byteOf c.type ++ leBytes 3 c.serial

/-- A head-loss cause (R184): 1 SILENT, or 0 and the fault code. -/
def HeadCause.bytes : HeadCause → List Byte
  | .silent => [1, 0]
  | .code n => 0 :: byteOf n

/-- A station cause (R184). -/
def StationCause.bytes : StationCause → List Byte
  | .code n => 0 :: byteOf n
  | .request => [2, 0]
  | .link => [3, 0]
  | .linkBack => [4, 0]
  | .timeout step => 5 :: byteOf step.number
  | .sequence => [6, 0]
  | .overpick => [7, 0]

/-- Link state: UP 0, LOST 1 (R146). -/
def linkByte (up : Bool) : List Byte := byteOf (if up then 0 else 1)

/-- Notes for the four cassettes, one byte each. -/
def notesBytes (n : Four Nat) : List Byte := n.toList.flatMap byteOf

def bitOf (b : Bool) (n : Nat) : Nat := if b then 2 ^ n else 0

/-! ## Journal entries (Tables 9-1, 10-7) -/

/-- The code field of an ITEM body: owner in the low 12 bits, type in the next 8, serial in the top 20; 0 when absent. -/
def packCode (c : Option Code) : List Byte :=
  match c with
  | some c => leBytes 5 (c.owner + c.type * 2 ^ 12 + c.serial * 2 ^ 20)
  | none => leBytes 5 0

/-- The measurement field of an ITEM body: value in the low 12 bits, form in the top bit; 0 when absent. -/
def packMeasurement (m : Option Measurement) : List Byte :=
  match m with
  | some m => leBytes 2 (m.value + m.form.number * 2 ^ 15)
  | none => leBytes 2 0

/-- The flags byte of an ITEM body. -/
def itemFlags (long : Bool) (capture : Capture) (cls value : Option Nat) (firstLane : Option LaneIdx) : Nat :=
  bitOf long 0 + bitOf capture.code.isSome 1 + bitOf capture.measurement.isSome 2 + bitOf cls.isSome 3 + bitOf value.isSome 4 +
  (match firstLane with | some i => (i.val + 1) * 2 ^ 5 | none => 0)

/-- Bytes 2 to 10 of an ITEM body. -/
def captureBytes (flags : Nat) (capture : Capture) (outcome : Nat) : List Byte :=
  byteOf flags ++ packCode capture.code ++ packMeasurement capture.measurement ++ byteOf (capture.cause.number + outcome * 16)

def timesBytes (opened aCleared completed : Nat) : List Byte := leBytes 4 opened ++ leBytes 4 aCleared ++ leBytes 4 completed

/-- The subject and detail of a FAULT entry. -/
def FaultSubject.bytes : FaultSubject → List Byte
  | .beamFault beams => 0 :: byteOf beams.number ++ [0]
  | .beamClear => [1, 0, 0]
  | .headLost cause => 2 :: cause.bytes
  | .headBack => [3, 0, 0]
  | .readDegraded bad items => 4 :: byteOf bad ++ byteOf items
  | .readRestored => [5, 0, 0]

/-- The body of an entry by kind. The class and value bytes of an ITEM entry without a class or value, and the outcome half of a STRAY
entry, are 0: the model's choice (log 29). -/
def JournalBody.bytes : JournalBody → List Byte
  | .item drop long capture cls outcome units value firstLane o a c =>
      leBytes 2 drop ++ captureBytes (itemFlags long capture cls value firstLane) capture outcome.number ++
      byteOf (cls.getD 0) ++ byteOf units ++ leBytes 3 (value.getD 0) ++ timesBytes o a c
  | .stray long capture o a c => captureBytes (itemFlags long capture none none none) capture 0 ++ timesBytes o a c
  | .reverse seenB => leBytes 4 seenB
  | .reject seq cls units => leBytes 6 seq ++ byteOf cls ++ byteOf units
  | .abandoned direction held long => byteOf (direction.number + bitOf long 1) ++ leBytes 4 held
  | .dropOpen drop account driver declarations =>
      leBytes 2 drop ++ leBytes 2 account ++ byteOf driver.length ++ driver ++ listBytes declarationBytes declarations
  | .dropClose drop how items amount => leBytes 2 drop ++ byteOf how.number ++ leBytes 5 items ++ leBytes 6 amount
  | .fault subject => subject.bytes

/-- The kind of an entry in Table 9-1 order. -/
def JournalBody.kind : JournalBody → Nat
  | .item _ _ _ _ _ _ _ _ _ _ _ => 0
  | .stray _ _ _ _ _ => 1
  | .reverse _ => 2
  | .reject _ _ _ => 3
  | .abandoned _ _ _ => 4
  | .dropOpen _ _ _ _ => 5
  | .dropClose _ _ _ _ => 6
  | .fault _ => 7

/-- An entry of a LANE.JOURNAL reply: a head of 7 bytes, then the body of its kind. -/
def JournalEntry.bytes (e : JournalEntry) : List Byte := byteOf e.body.kind ++ e.stamp.bytes ++ e.body.bytes

/-! ## Drops, records and stations -/

/-- A line record of 10 bytes. -/
def Line.bytes (l : Line) : List Byte :=
  byteOf (l.cls.getD 0xFF) ++ byteOf l.disposition.number ++ leBytes 3 l.value ++ leBytes 2 l.items ++ leBytes 3 l.units

/-- The station byte of the drop summary: absent, A, B, none. -/
def stationByte (station : Option Binding) : List Byte :=
  byteOf (match station with | some x => x.number + 1 | none => 0)

/-- Bytes 0 to 17 of the drop summary. -/
def DropView.head (v : DropView) : List Byte :=
  let d := v.record
  leBytes 2 d.number ++ laneByte d.lane ++ byteOf v.tag.number ++ leBytes 2 d.account ++ leBytes 2 d.checkCode ++
  stationByte d.station ++ byteOf (bitOf d.gateFault 0 + bitOf d.drainCut 1) ++ leBytes 4 d.openStamp ++ orOnes d.drainEndStamp

/-- The drop summary (Table 10-5). -/
def DropView.bytes (v : DropView) : List Byte :=
  let d := v.record
  v.head ++ leBytes 6 d.firstSeq ++ leBytes 6 (d.lastSeq.getD 0) ++ leBytes 2 d.reverse ++ leBytes 2 d.long ++ leBytes 2 d.rejects ++
  leBytes 6 v.amount ++ leBytes 5 v.classified ++ byteOf d.lines.length ++
  d.unresolved.toList.flatMap (fun t => leBytes 4 t.items ++ leBytes 5 t.units) ++
  byteOf d.declarations.length ++ padTo 32 (d.declarations.flatMap declarationBytes) ++
  byteOf d.driver.length ++ padTo 16 d.driver ++ orOnes v.sinceClose ++ orOnes v.toQuiet ++ byteOf v.place

/-- The record summary (Table 10-6). -/
def RecordView.bytes (v : RecordView) : List Byte :=
  byteOf v.slot ++ leBytes 2 v.number ++ byteOf (DropTag.record v.tag).number ++ setByte (v.reasons.map HoldReason.number) ++
  leBytes 6 v.amount ++ leBytes 6 v.cashPart ++ leBytes 6 v.creditIssued ++ leBytes 6 v.cashPaid ++ leBytes 6 v.outstanding ++
  leBytes 6 v.unresolvedAmount ++ orOnes v.deadline ++ byteOf v.queuePlace ++ orOnes v.finalStamp ++ byteOf v.finalPlace ++
  byteOf v.retracts ++ byteOf v.badChecks

def Cassette.bytes (c : Cassette) : List Byte :=
  leBytes 3 c.denomination ++ leBytes 2 c.count ++ leBytes 2 c.threshold ++ byteOf (if c.armed then 0 else 1)

def DispenseView.bytes (d : DispenseView) : List Byte :=
  leBytes 2 d.number ++ notesBytes d.ordered ++ leBytes 6 d.value ++ byteOf d.step.number ++ optionBytes notesBytes d.picked ++
  leBytes 3 d.timeLeft

def StationView.bytes (v : StationView) : List Byte :=
  byteOf v.state.number ++ linkByte v.up ++ byteOf v.lastFault ++ v.cassettes.toList.flatMap Cassette.bytes ++
  leBytes 3 v.claimPeriod ++ byteOf v.takePeriod ++ leBytes 6 v.retractValue ++ leBytes 4 v.retractNotes ++
  listBytes (leBytes 2) v.queue ++ optionBytes DispenseView.bytes v.dispense

/-! ## A lane -/

/-- A capacity by its place among 8, 16 and 32. -/
def capacityNumber (n : Nat) : Nat := if n = 8 then 0 else if n = 16 then 1 else 2

/-- A read window by its place among 16, 32, 64 and 128. -/
def windowNumber (n : Nat) : Nat := if n = 16 then 0 else if n = 32 then 1 else if n = 64 then 2 else 3

def LaneConfig.bytes (c : LaneConfig) : List Byte :=
  byteOf c.kind.number ++ byteOf c.binding.number ++ byteOf (capacityNumber c.capacity) ++ leBytes 2 c.longLimit ++
  byteOf c.stuckLimit ++ leBytes 2 c.earlyHold ++ leBytes 2 c.lateGrace ++ leBytes 2 c.measureAge ++ leBytes 2 c.rejectWindow ++
  leBytes 2 c.drainQuiet ++ leBytes 2 c.drainLimit ++ byteOf (windowNumber c.readWindow) ++ byteOf c.declareCount ++ byteOf c.clearRun

/-- A code state, with the code when it is one code. That the code follows its own enumeration byte, which tells whether it is there, with no
presence byte between them, is the model's choice (log 18): R34 and R184 do not say. -/
def CodeState.bytes : CodeState → List Byte
  | .none => [0]
  | .one c => 1 :: c.bytes
  | .multi => [2]

/-- A settled level by its place in R1: blocked 0, clear 1 (R184; log 29). -/
def levelByte (blocked : Bool) : List Byte := byteOf (if blocked then 0 else 1)

def LaneView.bytes (v : LaneView) : List Byte :=
  byteOf v.state.number ++ optionBytes (leBytes 2) v.drop ++ v.cfg.bytes ++ byteOf v.gate ++
  optionBytes (fun x => byteOf (FaultBeams.number x)) v.faultBeams ++ levelByte v.blockedA ++ levelByte v.blockedB ++
  byteOf v.head ++ byteOf v.lastFault ++
  optionBytes (fun p => byteOf (Form.number p.1.form) ++ leBytes 2 p.1.value ++ leBytes 4 p.2) v.measure ++
  optionBytes Code.bytes v.early ++ optionBytes CodeState.bytes v.windowCode ++ flagByte v.graceRuns ++ flagByte v.waits ++
  byteOf v.occupancy ++ byteOf v.peak ++ flagByte v.latch ++ byteOf v.pacing.number ++ flagByte v.degraded ++
  byteOf v.windowItems ++ byteOf v.windowBad ++ byteOf v.rejects ++ optionBytes (leBytes 2) v.newestReject

def Counter.bytes (c : Counter) : List Byte := leBytes 4 c.value ++ flagByte c.overflow

def LaneCounters.bytes (c : LaneCounters) : List Byte :=
  [c.forward, c.reverse, c.bounces, c.glitches, c.longItems, c.abandoned, c.paired, c.unread, c.multiCode, c.strayReads,
   c.strayItems, c.rejectsApplied, c.lateRejects, c.overflows, c.phantoms].flatMap Counter.bytes

def YardCounters.bytes (y : YardCounters) : List Byte :=
  [y.evicted, y.aged, y.tableFaults, y.unknownDrop, y.wrongStation, y.notReady, y.inProgress, y.closedOut, y.stationOut,
   y.badCheck, y.locked, y.queueFull, y.framesRejected, y.noticesDiscarded].flatMap (leBytes 4)

/-! ## Table entries -/

def ClassPart.bytes : ClassPart → List Byte
  | .crate limit => flagByte true ++ byteOf limit ++ flagByte false
  | .keg tare ullage full charge =>
      flagByte false ++ flagByte true ++ leBytes 2 tare ++ leBytes 2 ullage ++ leBytes 2 full ++ leBytes 3 charge

def ClassPart.kindNumber : ClassPart → Nat
  | .crate _ => 0
  | .keg _ _ _ _ => 1

def ClassEntry.bytes (e : ClassEntry) : List Byte :=
  leBytes 2 e.owner ++ byteOf e.type ++ byteOf e.part.kindNumber ++ leBytes 3 e.deposit ++ e.part.bytes

def MarkEntry.bytes (e : MarkEntry) : List Byte := leBytes 2 e.owner ++ leBytes 3 e.serial ++ byteOf e.mark.number

def PoolEntry.bytes (e : PoolEntry) : List Byte := leBytes 8 e.accepted.toNat ++ listBytes overrideBytes e.overrides

def AccountEntry.bytes (e : AccountEntry) : List Byte :=
  leBytes 2 e.number ++ byteOf e.pool ++ byteOf e.mode.number ++ leBytes 4 e.cashLimit ++ byteOf e.tolerance ++
  leBytes 6 e.holdAbove ++ byteOf e.state.number

/-- The condition of an entry (EMPTY 0, USABLE 1, UNUSABLE 2, the order of R58), then its fields, which are absent unless it is USABLE
(R184). -/
def reportBytes {α : Type} (f : α → List Byte) : Report α → List Byte
  | .usable x => byteOf 1 ++ optionBytes f (some x)
  | .unusable => byteOf 2 ++ optionBytes f none

def slotReportBytes {α : Type} (f : α → List Byte) (p : Nat × Report α) : List Byte := byteOf p.1 ++ reportBytes f p.2

/-- What follows when something is reported; nothing on a refusal. -/
def whenSome {α : Type} (f : α → List Byte) : Option α → List Byte
  | some x => f x
  | none => []

def SightView.bytes (v : SightView) : List Byte :=
  leBytes 2 v.owner ++ leBytes 3 v.serial ++ laneByte v.firstLane ++ optionBytes (leBytes 2) v.firstDrop ++ leBytes 3 v.elapsed ++
  byteOf v.repeats ++ leBytes 2 v.place

def PingView.bytes (v : PingView) : List Byte :=
  leBytes 2 Config.vendor ++ byteOf Config.part ++ byteOf Config.revision ++ v.lanes.flatMap (fun l => byteOf l.number) ++
  v.stations.flatMap (fun p => byteOf p.1.number ++ linkByte p.2) ++ leBytes 4 v.clock ++ byteOf v.notices ++ flagByte v.latch ++
  byteOf v.waiting

/-! ## Replies -/

/-- The sequence of the first entry returned, 0 when there is none. The manual gives 0 for an empty journal; 0 for a journal that is not
empty and returns no entries is the model's choice (log 18). -/
def firstReturned (es : List JournalEntry) : Nat := match es with | e :: _ => e.seq | [] => 0

/-- What follows the kind and status of a reply. The count of SIGHT.FORGET (kind 0x42) needs 2 bytes, that of RECORD.CLEAR 1. -/
def Result.bytes (kind : Byte) : Result → List Byte
  | .none => []
  | .ping v => v.bytes
  | .clock was => leBytes 4 was
  | .filter groups => [groups]
  | .yard y => y.bytes
  | .lane v => v.bytes
  | .journal es oldest newest mark unread =>
      byteOf es.length ++ leBytes 6 (firstReturned es) ++ leBytes 6 oldest ++ leBytes 6 newest ++ leBytes 6 mark ++
      leBytes 2 unread ++ es.flatMap JournalEntry.bytes
  | .counters c => c.bytes
  | .count n => if kind = 0x42 then leBytes 2 n else byteOf n
  | .slot n => byteOf n
  | .classEntry e n => whenSome (reportBytes ClassEntry.bytes) e ++ byteOf n
  | .markEntry e n => whenSome (slotReportBytes MarkEntry.bytes) e ++ byteOf n
  | .poolEntry e => reportBytes PoolEntry.bytes e
  | .accountEntry e n => whenSome (slotReportBytes AccountEntry.bytes) e ++ leBytes 2 n
  | .period n => leBytes 3 n
  | .sight e size oldest => whenSome SightView.bytes e ++ leBytes 2 size ++ optionBytes (leBytes 3) oldest
  | .opened number code => leBytes 2 number ++ leBytes 2 code
  | .resolved amount remaining lineTotal => leBytes 6 amount ++ leBytes 5 remaining ++ byteOf lineTotal
  | .approved amount tag => leBytes 6 amount ++ byteOf tag.number
  | .dropSummary v r => v.bytes ++ whenSome RecordView.bytes r
  | .dropLines number total first lines =>
      leBytes 2 number ++ byteOf total ++ byteOf first ++ listBytes Line.bytes lines
  | .credited sum issued => leBytes 6 sum ++ leBytes 6 issued
  | .record e records finals parked =>
      whenSome (fun p => RecordView.bytes p.1 ++ DropView.head p.2) e ++ byteOf records ++ byteOf finals ++ byteOf parked
  | .tally returned => optionBytes (fun p => leBytes 6 p.1 ++ leBytes 4 p.2) returned
  | .station v => v.bytes

/-- A reply frame (R176, R184): kind 0xFD and the request's tag. -/
def Reply.frame (r : Reply) : Frame := ⟨0xFD, r.tag, r.kind :: byteOf r.status.number ++ r.result.bytes r.kind⟩

/-! ## Notices (Table 10-1, Table 10-4) -/

/-- The station field of a record's notice: A, B, none. -/
def bindingByte (station : Option Binding) : List Byte := byteOf (match station with | some x => x.number | none => 2)

def NoticeBody.bytes : NoticeBody → List Byte
  | .partUp cause => byteOf cause.number ++ leBytes 2 Config.vendor ++ byteOf Config.part ++ byteOf Config.revision
  | .linkFault cause kind tag => byteOf cause.number ++ [kind, tag]
  | .noticesLost number stamp kind => leBytes 2 number ++ stamp.bytes ++ byteOf kind
  | .beamFault lane beams n => laneByte lane ++ byteOf beams.number ++ byteOf n
  | .beamClear lane => laneByte lane
  | .headLost lane cause => laneByte lane ++ cause.bytes
  | .headBack lane => laneByte lane
  | .accumFull lane capacity => laneByte lane ++ byteOf (capacityNumber capacity)
  | .readDegraded lane bad items => laneByte lane ++ byteOf bad ++ byteOf items
  | .readRestored lane => laneByte lane
  | .itemAlert lane drop seq code cls disposition reasons =>
      laneByte lane ++ leBytes 2 drop ++ leBytes 6 seq ++ code.bytes ++ byteOf cls ++ byteOf disposition.number ++
      setByte (reasons.map AlertReason.number)
  | .stray lane seq cause code => laneByte lane ++ leBytes 6 seq ++ byteOf cause.number ++ optionBytes Code.bytes code
  | .dropDone drop lane account amount items remaining reasons =>
      leBytes 2 drop ++ laneByte lane ++ leBytes 2 account ++ leBytes 6 amount ++ leBytes 5 items ++ leBytes 5 remaining ++
      setByte (reasons.map HoldReason.number)
  | .storeFull lane drop place => laneByte lane ++ leBytes 2 drop ++ byteOf place
  | .dropVoid drop lane source removed => leBytes 2 drop ++ laneByte lane ++ byteOf source.number ++ leBytes 2 removed
  | .recordRemoved drop slot tag stamp => leBytes 2 drop ++ byteOf slot ++ byteOf tag.number ++ orOnes stamp
  | .settled drop lane account station amount cash rest code =>
      leBytes 2 drop ++ laneByte lane ++ leBytes 2 account ++ bindingByte station ++ leBytes 6 amount ++ leBytes 6 cash ++
      leBytes 6 rest ++ leBytes 2 code
  | .credit drop account station sum reason issued tag =>
      leBytes 2 drop ++ leBytes 2 account ++ bindingByte station ++ leBytes 6 sum ++ byteOf reason.number ++ leBytes 6 issued ++
      byteOf tag.number
  | .payout drop account station cash notes denominations issued =>
      leBytes 2 drop ++ leBytes 2 account ++ byteOf (StationId.number station) ++ leBytes 6 cash ++
      ((notes.zip (fun n d => byteOf n ++ leBytes 3 d) denominations).toList.flatMap id) ++ leBytes 6 issued
  | .unresolved drop account station amount notes step cause =>
      leBytes 2 drop ++ leBytes 2 account ++ byteOf (StationId.number station) ++ leBytes 6 amount ++ optionBytes notesBytes notes ++
      byteOf step.number ++ cause.bytes
  | .stationChange station state up cause =>
      byteOf (StationId.number station) ++ byteOf state.number ++ linkByte up ++ cause.bytes
  | .cassetteLow station cassette denomination count =>
      byteOf (StationId.number station) ++ byteOf cassette ++ leBytes 3 denomination ++ leBytes 2 count
  | .journalHalf lane unread newest => laneByte lane ++ leBytes 2 unread ++ leBytes 6 newest
  | .journalWrap lane mark newest => laneByte lane ++ leBytes 6 mark ++ leBytes 6 newest
  | .tableFault table index => byteOf table.number ++ byteOf index

/-- A notice frame: kind 0xFE, tag 0, the header of Table 10-4, then its fields. -/
def Notice.frame (n : Notice) : Frame :=
  ⟨0xFE, 0, leBytes 2 n.number ++ byteOf n.body.kind ++ byteOf n.body.group ++ n.stamp.bytes ++ n.body.bytes⟩

/-- The frame on HOST_TX. -/
def TxFrame.frame : TxFrame → Frame
  | .reply r => r.frame
  | .notice n => n.frame

/-- A frame to a station (Table 10-9), with tag 0 (R186). -/
def StationTx.frame : StationTx → Frame
  | .answer number a extra cash => ⟨0x20, 0, leBytes 2 number ++ byteOf a.number ++ byteOf extra ++ leBytes 6 cash⟩
  | .dispense number notes takePeriod => ⟨0x21, 0, leBytes 2 number ++ notesBytes notes ++ byteOf takePeriod⟩

end Sys2Proof.Machine
end

