-- ==== Sys2Proof/Machine/LaneRequests.lean ====
section
/-! DEFINITION. The meanings of the LANE requests (R38 to R42, R170, R172). -/

namespace Sys2Proof.Machine

/-! ## LANE.ON (R38) -/

/-- A stuck timer starts for a beam that is blocked as the gate leaves RESET (R13, R17). -/
def stuckAtStart (d : Debouncer) (now : Nat) : Option Nat := if d.settled then some now else none

/-- A lane put into service: IDLE, with everything R38 sets afresh. -/
def Lane.turnOn (l : Lane) (now : Nat) : Lane :=
  { l with
    inService := true, occupancy := 0, peak := 0, latch := false, window := [], degraded := false, rejects := [],
    gate := .idle, stuckA := stuckAtStart l.beamA now, stuckB := stuckAtStart l.beamB now,
    early := none, measure := none, grace := none, waiting := none, head := .present now }

/-- What LANE.ON does. -/
def State.laneOn (s : State) (lane : Nat) : Answered :=
  match laneOf lane with
  | none => refuse s .range
  | some i =>
    if (s.lane i).state = .off then ⟨s.modLane i (fun l => l.turnOn s.now), .ok, .none⟩ else refuse s .state

/-- LANE_ON. -/
def execLaneOn (tag : Byte) (lane : Nat) (s : State) : Outcome :=
  request (.laneOn tag lane) (fun s => s.laneOn lane) id s

/-! ## LANE.OFF (R39, R17, R35) -/

/-- A lane out of service: steps 3 to 6 of R39 once its items have been handed on, discarded and abandoned. -/
def Lane.turnOff (l : Lane) : Lane :=
  { l with
    inService := false, gate := .reset, stuckA := none, stuckB := none, lastABlock := none, measure := none, grace := none,
    head := .off, lastFault := 0, latch := false, window := [], degraded := false, rejects := [] }

/-- The steps of a LANE.OFF that is taken, in the order of R39. -/
def State.turnLaneOff (s : State) (i : LaneIdx) : State :=
  let s1 := (s.handOverWaiting i).dropEarly i
  (s1.abandonItems i .reset).modLane i Lane.turnOff

/-- What LANE.OFF does. -/
def State.laneOff (s : State) (lane : Nat) : Answered :=
  match laneOf lane with
  | none => refuse s .range
  | some i => if (s.lane i).state = .idle then ⟨s.turnLaneOff i, .ok, .none⟩ else refuse s .state

/-- LANE_OFF. -/
def execLaneOff (tag : Byte) (lane : Nat) (s : State) : Outcome :=
  request (.laneOff tag lane) (fun s => s.laneOff lane) id s

/-! ## LANE.SET (R40) -/

/-- What LANE.SET does. A lane number outside 1 to 6 names no lane, so it is RANGE. On a lane that is not OFF a field outside its
range may be answered STATE or RANGE: a free choice (log 13). -/
def State.laneSet (s : State) (lane : Nat) (config : LaneConfigArgs) : Answered :=
  match laneOf lane with
  | none => refuse s .range
  | some i =>
    match laneConfigOf config with
    | some c => if (s.lane i).state = .off then ⟨s.modLane i (fun l => { l with cfg := c }), .ok, .none⟩ else refuse s .state
    | none =>
      if (s.lane i).state = .off then refuse s .range
      else refuse s (if Config.laneSetAnswersState s.now then .state else .range)

/-- LANE_SET. -/
def execLaneSet (tag : Byte) (lane : Nat) (config : LaneConfigArgs) (s : State) : Outcome :=
  request (.laneSet tag lane config) (fun s => s.laneSet lane config) id s

/-! ## LANE.GET (R42, R47) -/

/-- What LANE.GET answers: the peak as it stood, which then becomes the occupancy when the option is set. -/
def State.laneGet (s : State) (lane : Nat) (clearPeak : Bool) : Answered :=
  match laneOf lane with
  | none => refuse s .range
  | some i =>
    ⟨if clearPeak then s.modLane i (fun l => { l with peak := l.occupancy }) else s, .ok, .lane ((s.lane i).view s.now)⟩

/-- LANE_GET. -/
def execLaneGet (tag : Byte) (lane : Nat) (clearPeak : Bool) (s : State) : Outcome :=
  request (.laneGet tag lane clearPeak) (fun s => s.laneGet lane clearPeak) id s

/-! ## LANE.JOURNAL (R170, R185) -/

/-- The room a LANE.JOURNAL reply leaves for entries: its body holds 240 bytes, of which 29 stand before the entries. -/
def journalRoom : Nat := Config.bodyMax - 29

/-- As many whole entries as fit in the room (R185). -/
def fitting : Nat → List JournalEntry → List JournalEntry
  | _, [] => []
  | room, e :: rest => if e.bytes.length ≤ room then e :: fitting (room - e.bytes.length) rest else []

/-- The entries a LANE.JOURNAL returns (R170, R185). -/
def Journal.select (j : Journal) (first count : Nat) : List JournalEntry :=
  fitting journalRoom ((j.entries.filter (fun e => decide (first ≤ e.seq))).take count)

/-- The journal after a LANE.JOURNAL that returned these entries (R170). -/
def Journal.read (j : Journal) (returned : List JournalEntry) : Journal :=
  let j1 := { j with readMark := match returned.getLast? with | some e => e.seq | none => j.readMark, wrapArmed := true }
  { j1 with halfArmed := j1.halfArmed || decide (j1.unread < 64) }

/-- What LANE.JOURNAL does. -/
def State.laneJournal (s : State) (lane first count : Nat) : Answered :=
  match laneOf lane with
  | none => refuse s .range
  | some i =>
    if within 1 6 count && within 1 Config.sequenceMax first then
      let j := (s.lane i).journal
      let es := j.select first count
      let j1 := j.read es
      ⟨s.modLane i (fun l => { l with journal := j1 }), .ok, .journal es j1.oldest j1.newest j1.readMark j1.unread⟩
    else refuse s .range

/-- LANE_JOURNAL. -/
def execLaneJournal (tag : Byte) (lane first count : Nat) (s : State) : Outcome :=
  request (.laneJournal tag lane first count) (fun s => s.laneJournal lane first count) id s

/-! ## LANE.COUNTERS (R172) -/

/-- What LANE.COUNTERS does. -/
def State.laneCounters (s : State) (lane : Nat) : Answered :=
  match laneOf lane with
  | none => refuse s .range
  | some i => ⟨s.modLane i (fun l => { l with counters := .zero }), .ok, .counters (s.lane i).counters⟩

/-- LANE_COUNTERS. -/
def execLaneCounters (tag : Byte) (lane : Nat) (s : State) : Outcome :=
  request (.laneCounters tag lane) (fun s => s.laneCounters lane) id s

end Sys2Proof.Machine
end

