-- ==== Sys2Proof/Machine/Part.lean ====
section
/-! DEFINITION. The meanings of the PART requests (R173, R179 to R182) and of the resets (R183). -/

namespace Sys2Proof.Machine

/-! ## Power-on reset (R183) -/

/-- A lane at power-on reset: its four lines keep their raw levels (R1, log 9). -/
def Lane.reset (l : Lane) : Lane := Lane.powerOn l.beamA.line l.beamB.line l.takeoff.line l.reject.line

/-- POWER_ON_RESET: RST is released, or the supply established with RST high. Commands still waiting stay in the queue. -/
def execPowerOnReset (s : State) : Outcome := .next (State.powerOn (s.lanes.map Lane.reset) s.choices s.pending)

/-- RST_ASSERT: the part is held in reset, every pacing output at STOP (log 8). -/
def execRstAssert (s : State) : Outcome :=
  .next { s with rstHeld := true, lanes := s.lanes.map (fun l => { l with pacing := .stop }) }

/-! ## PART.PING, PART.CLOCK, PART.FILTER, PART.COUNTERS -/

/-- PART_PING (R181). -/
def execPartPing (tag : Byte) (s : State) : Outcome :=
  request (.partPing tag) (fun s => ⟨s, .ok, .ping s.pingView⟩) id s

/-- What PART.CLOCK does (R180). -/
def State.setClock (s : State) (seconds : Nat) : Answered :=
  if seconds ≤ Config.word32Max then
    ⟨{ s with host := { s.host with clock := seconds, clockBase := s.now } }, .ok, .clock s.host.clock⟩
  else refuse s .range

/-- PART_CLOCK. -/
def execPartClock (tag : Byte) (seconds : Nat) (s : State) : Outcome :=
  request (.partClock tag seconds) (fun s => s.setClock seconds) id s

/-- The groups in force after PART.FILTER: MONEY, group 4, is enabled whatever the set says (R179). -/
def withMoney (groups : Byte) : Byte := groups ||| 0x10

/-- PART_FILTER (R179). -/
def execPartFilter (tag : Byte) (groups : Byte) (s : State) : Outcome :=
  request (.partFilter tag groups)
    (fun s => ⟨{ s with host := { s.host with filter := withMoney groups } }, .ok, .filter (withMoney groups)⟩) id s

/-- PART_COUNTERS (R173). -/
def execPartCounters (tag : Byte) (s : State) : Outcome :=
  request (.partCounters tag) (fun s => ⟨s, .ok, .yard s.yard⟩) id s

/-! ## PART.RESTART (R182) -/

/-- A lane after a yard restart (R18, R36, R48, R53, R54, R174): OFF, with its configuration and debouncers kept. -/
def Lane.restart (l : Lane) : Lane :=
  { l with
    inService := false, gate := .reset, stuckA := none, stuckB := none, lastABlock := none, head := .off, lastFault := 0,
    measure := none, early := none, grace := none, waiting := none, occupancy := 0, peak := 0, latch := false, window := [],
    degraded := false, rejects := [], pacing := .stop, journal := .empty, counters := .zero, drop := none }

/-- A station after a yard restart (R164): CLOSED, with its cassettes, periods, tally and link kept. -/
def Station.restart (t : Station) : Station := { t with state := .closed, queue := [], lastFault := 0 }

/-- The conditions of R182. -/
def State.mayRestart (s : State) : Bool :=
  allLanes.all (fun i => decide ((s.lane i).state = .off) || decide ((s.lane i).state = .idle)) &&
  s.store.all (fun p => p.2.final) &&
  (s.stationA.state.dispense.isNone && s.stationB.state.dispense.isNone)

/-- Steps 1 to 6 of R182. -/
def State.restarted (s : State) : State :=
  { s with
    lanes := s.lanes.map Lane.restart, store := [], finalOrder := [], parkOrder := [], sightings := [], yard := .zero,
    stationA := s.stationA.restart, stationB := s.stationB.restart,
    host := { s.host with notices := [], latch := false, nextNotice := 1 } }

/-- What PART.RESTART does. -/
def State.restart (s : State) : Answered :=
  if s.mayRestart then ⟨s.restarted.post (.partUp .restart), .ok, .none⟩ else refuse s .state

/-- PART_RESTART. -/
def execPartRestart (tag : Byte) (s : State) : Outcome :=
  request (.partRestart tag) (fun s => s.restart) id s

end Sys2Proof.Machine
end

