-- ==== Sys2Proof/Machine/RecordRequests.lean ====
section
/-! DEFINITION. The meanings of the RECORD requests (R131, R143, R144). -/

namespace Sys2Proof.Machine

/-- What RECORD.CREDIT does (R143). -/
def State.recordCredit (s : State) (number : Nat) : Answered :=
  if number = 0 then refuse s .range
  else
    match s.holder number with
    | .nobody => refuse s .absent
    | .laneDrop _ _ => refuse s .state
    | .record k r =>
      match r.state.tag with
      | .awaiting => ⟨s.creditMove k r r.outstanding .forced, .ok, .credited r.outstanding (r.creditIssued + r.outstanding)⟩
      | .claimed => ⟨s.creditMove k r r.outstanding .forced, .ok, .credited r.outstanding (r.creditIssued + r.outstanding)⟩
      | _ => refuse s .state

/-- RECORD_CREDIT: the record becomes final, which frees room for a parked drop (R143, R111). -/
def execRecordCredit (tag : Byte) (number : Nat) (s : State) : Outcome :=
  request (.recordCredit tag number) (fun s => s.recordCredit number) State.enterParked s

/-- What RECORD.CLEAR does (R131). -/
def State.recordClear (s : State) (sel : ClearSel) : Answered :=
  match sel with
  | .number n =>
    if n = 0 then refuse s .range
    else
      match s.holder n with
      | .nobody => refuse s .absent
      | .laneDrop _ _ => refuse s .state
      | .record k r => if r.final then ⟨s.removeRecord k, .ok, .none⟩ else refuse s .state
  | .all =>
    let kept := s.store.filter (fun p => !p.2.final)
    ⟨{ s with store := kept, finalOrder := [] }, .ok, .count (s.store.length - kept.length)⟩

/-- RECORD_CLEAR: a slot freed is offered to a parked drop (R131, R111). -/
def execRecordClear (tag : Byte) (sel : ClearSel) (s : State) : Outcome :=
  request (.recordClear tag sel) (fun s => s.recordClear sel) State.enterParked s

/-- A refusal of RECORD.GET with the three counts every reply carries (R144). -/
def State.recordRefusal (s : State) (status : Status) : Answered := ⟨s, status, s.recordResult none⟩

/-- What RECORD.GET answers (R144). -/
def State.recordGet (s : State) (sel : RecordSel) : Answered :=
  match sel with
  | .number n =>
    if n = 0 then s.recordRefusal .range
    else
      match s.holder n with
      | .nobody => s.recordRefusal .absent
      | .laneDrop _ _ => s.recordRefusal .state
      | .record k r => ⟨s, .ok, s.recordResult (some (k, r))⟩
  | .slot k =>
    if within 0 31 k then
      match s.recordAt k with
      | some r => ⟨s, .ok, s.recordResult (some (k, r))⟩
      | none => s.recordRefusal .absent
    else s.recordRefusal .range

/-- RECORD_GET. -/
def execRecordGet (tag : Byte) (sel : RecordSel) (s : State) : Outcome :=
  request (.recordGet tag sel) (fun s => s.recordGet sel) id s

end Sys2Proof.Machine
end

