-- ==== Sys2Proof/Machine/SightRequests.lean ====
section
/-! DEFINITION. The meanings of the SIGHT requests (R74, R92, R93). -/

namespace Sys2Proof.Machine

/-- Every entry that has reached the period leaves, each counted as aged (R74, R91). -/
def State.ageAll (s : State) : State :=
  (s.sightings.filter s.aged).foldl (fun s _ => s.countYard .aged) { s with sightings := s.sightings.filter (fun e => !s.aged e) }

/-- What SIGHT.HOLD does (R74). -/
def State.sightHold (s : State) (period : Nat) : Answered :=
  if within 600 86400 period then
    ⟨{ s with holdPeriod := period }.ageAll, .ok, .period period⟩
  else refuse s .range

/-- SIGHT_HOLD. -/
def execSightHold (tag : Byte) (period : Nat) (s : State) : Outcome :=
  request (.sightHold tag period) (fun s => s.sightHold period) id s

/-- What SIGHT.FIND answers (R92): every ABSENT reply carries the size and the oldest age too. -/
def State.sightFind (s : State) (owner serial : Nat) : Answered :=
  if keyInRange owner serial then
    match sightingOf s.sightings owner serial with
    | some e => ⟨s, .ok, s.sightResult (some e)⟩
    | none => ⟨s, .absent, s.sightResult none⟩
  else ⟨s, .range, s.sightResult none⟩

/-- SIGHT_FIND. -/
def execSightFind (tag : Byte) (owner serial : Nat) (s : State) : Outcome :=
  request (.sightFind tag owner serial) (fun s => s.sightFind owner serial) id s

/-- What SIGHT.FORGET does (R93). -/
def State.sightForget (s : State) (owner serial : Nat) : Answered :=
  if keyInRange owner serial then
    match sightingOf s.sightings owner serial with
    | some _ =>
      let list := forget s.sightings owner serial
      ⟨{ s with sightings := list }, .ok, .count list.length⟩
    | none => refuse s .absent
  else refuse s .range

/-- SIGHT_FORGET. -/
def execSightForget (tag : Byte) (owner serial : Nat) (s : State) : Outcome :=
  request (.sightForget tag owner serial) (fun s => s.sightForget owner serial) id s

end Sys2Proof.Machine
end

