-- ==== Sys2Proof/Machine/StationRequests.lean ====
section
/-! DEFINITION. The meanings of the STATION requests (R148 to R151). -/

namespace Sys2Proof.Machine

/-- What STATION.OPEN does (R148). -/
def State.stationOpen (s : State) (station : Nat) : Answered :=
  match stationOf station with
  | none => refuse s .range
  | some x =>
    let t := s.station x
    match t.state.tag with
    | .closed => if t.link.isUp then ⟨(s.setStationState x .opened).stationChanged x .request, .ok, .none⟩ else refuse s .state
    | .fault => if t.link.isUp then ⟨(s.setStationState x .opened).stationChanged x .request, .ok, .none⟩ else refuse s .state
    | _ => refuse s .state

/-- STATION_OPEN. -/
def execStationOpen (tag : Byte) (station : Nat) (s : State) : Outcome :=
  request (.stationOpen tag station) (fun s => s.stationOpen station) id s

/-- What STATION.CLOSE does (R149); the cause of every close is REQUEST (log 16). -/
def State.stationClose (s : State) (station : Nat) : Answered :=
  match stationOf station with
  | none => refuse s .range
  | some x =>
    match (s.station x).state with
    | .opened => ⟨(s.setStationState x .closed).stationChanged x .request, .ok, .none⟩
    | .serving d => ⟨((s.returnQueue x).setStationState x (.closing d)).stationChanged x .request, .ok, .none⟩
    | .fault => ⟨(s.setStationState x .closed).stationChanged x .request, .ok, .none⟩
    | _ => refuse s .state

/-- STATION_CLOSE. -/
def execStationClose (tag : Byte) (station : Nat) (s : State) : Outcome :=
  request (.stationClose tag station) (fun s => s.stationClose station) id s

/-- The settings of a STATION.LOAD lie in their ranges (R150). -/
def periodsInRange (claimPeriod takePeriod : Nat) : Bool := within 60 86400 claimPeriod && within 10 120 takePeriod

/-- A station with the cassettes and periods loaded, its retract tally set to 0 when it is returned (R150, R153). -/
def Station.loaded (t : Station) (cassettes : Four Cassette) (claimPeriod takePeriod : Nat) (returnTally : Bool) : Station :=
  { t with
    cassettes := cassettes, claimPeriod := claimPeriod, takePeriod := takePeriod
    retractValue := if returnTally then 0 else t.retractValue
    retractNotes := if returnTally then 0 else t.retractNotes }

/-- The result of a STATION.LOAD that is taken: the retract tally as it stood, when it is returned (R150, R153). -/
def Station.tallyResult (t : Station) (returnTally : Bool) : Result :=
  .tally (if returnTally then some (t.retractValue, t.retractNotes) else none)

/-- What STATION.LOAD does (R150). -/
def State.stationLoad (s : State) (station : Nat) (args : Four CassetteArgs) (claimPeriod takePeriod : Nat) (returnTally : Bool) :
    Answered :=
  match stationOf station, cassettesOf args with
  | some x, some cs =>
    if periodsInRange claimPeriod takePeriod then
      let t := s.station x
      match t.state.tag with
      | .closed => ⟨s.modStation x (fun t => t.loaded cs claimPeriod takePeriod returnTally), .ok, t.tallyResult returnTally⟩
      | .fault => ⟨s.modStation x (fun t => t.loaded cs claimPeriod takePeriod returnTally), .ok, t.tallyResult returnTally⟩
      | _ => refuse s .state
    else refuse s .range
  | _, _ => refuse s .range

/-- The cassettes of the station named are tested after the reply (R150, R152). -/
def State.afterLoad (s : State) (station : Nat) : State :=
  match stationOf station with
  | some x => s.testLoaded x
  | none => s

/-- STATION_LOAD. -/
def execStationLoad (tag : Byte) (station : Nat) (cassettes : Four CassetteArgs) (claimPeriod takePeriod : Nat) (returnTally : Bool)
    (s : State) : Outcome :=
  request (.stationLoad tag station cassettes claimPeriod takePeriod returnTally)
    (fun s => s.stationLoad station cassettes claimPeriod takePeriod returnTally) (fun s => s.afterLoad station) s

/-- What STATION.GET answers (R151). -/
def State.stationGet (s : State) (station : Nat) : Answered :=
  match stationOf station with
  | none => refuse s .range
  | some x => ⟨s, .ok, .station (s.stationView x)⟩

/-- STATION_GET. -/
def execStationGet (tag : Byte) (station : Nat) (s : State) : Outcome :=
  request (.stationGet tag station) (fun s => s.stationGet station) id s

end Sys2Proof.Machine
end

