-- ==== Sys2Proof/Machine/Stations.lean ====
section
/-! DEFINITION. The meanings of the station links' commands (chapter 8). -/

namespace Sys2Proof.Machine

/-- STATION_FRAME_DISCARD (R145): the command carries the frame as received. An invalid frame only sets the receiver hunting; one that
is valid after all is taken by its kind (log 20). -/
def execStationFrameDiscard (x : StationId) (f : Frame) (check : Check) (s : State) : Outcome :=
  event (fun s => s.stationFrame x (stationFrameOf f check)) s

/-- STATION_BYTE_TIMEOUT (R186). -/
def execStationByteTimeout (x : StationId) (s : State) : Outcome :=
  event (fun s => if (s.station x).rx.gapReached s.now then s.modStation x (fun t => { t with rx := .hunting }) else s) s

/-- A station frame with these fields, discarded when one lies outside its range (R145, log 20). -/
def validStation (f : StationFrame) : Option StationFrame := if f.inRange then some f else none

/-- READY (R146). -/
def execReady (x : StationId) (s : State) : Outcome := event (fun s => s.stationFrame x (validStation .ready)) s

/-- STATION_LINK_SILENCE (R146). -/
def execStationLinkSilence (x : StationId) (s : State) : Outcome :=
  event (fun s => if (s.station x).silenceReached s.now then (s.loseLink x).enterParked else s) s

/-- CLAIM (R134 to R137). -/
def execClaim (x : StationId) (number code : Nat) (s : State) : Outcome :=
  event (fun s => s.stationFrame x (validStation (.claim number code))) s

/-- PICKED (R157). -/
def execPicked (x : StationId) (n1 n2 n3 n4 : Nat) (s : State) : Outcome :=
  event (fun s => s.stationFrame x (validStation (.picked ⟨n1, n2, n3, n4⟩))) s

/-- PRESENTED (R158). -/
def execPresented (x : StationId) (s : State) : Outcome := event (fun s => s.stationFrame x (validStation .presented)) s

/-- TAKEN (R159). -/
def execTaken (x : StationId) (s : State) : Outcome := event (fun s => s.stationFrame x (validStation .taken)) s

/-- RETRACTED (R160). -/
def execRetracted (x : StationId) (s : State) : Outcome := event (fun s => s.stationFrame x (validStation .retracted)) s

/-- DISPENSER_FAULT (R161, R163). -/
def execDispenserFault (x : StationId) (code : Nat) (s : State) : Outcome :=
  event (fun s => s.stationFrame x (validStation (.fault code))) s

/-- DISPENSE_STEP_TIMEOUT (R161). -/
def execDispenseStepTimeout (x : StationId) (s : State) : Outcome :=
  event (fun s =>
    match (s.station x).state.dispense with
    | none => s
    | some d =>
      if d.timeout ≤ s.now then (s.failDispense x d d.step.picked (.timeout d.step.tag)).enterParked else s) s

end Sys2Proof.Machine
end

