-- ==== Sys2Proof/Machine/TableRequests.lean ====
section
/-! DEFINITION. The meanings of the CLASS, MARK, POOL and ACCOUNT requests (R57 to R70). Where a rule lists refusals without an order,
they are tested in the order of its text (log 14). -/

namespace Sys2Proof.Machine

def State.setClasses (s : State) (t : Table ClassEntry) : State := { s with tables := { s.tables with classes := t } }
def State.setMarks (s : State) (t : Table MarkEntry) : State := { s with tables := { s.tables with marks := t } }
def State.setPools (s : State) (t : Table PoolEntry) : State := { s with tables := { s.tables with pools := t } }
def State.setAccounts (s : State) (t : Table AccountEntry) : State := { s with tables := { s.tables with accounts := t } }

/-! ## The Class Table -/

/-- What CLASS.PUT does (R61). -/
def State.classPut (s : State) (number : Nat) (args : ClassArgs) : Answered :=
  match classEntryOf args with
  | none => refuse s .range
  | some e =>
    if within 0 63 number then
      let s1 := s.examineClasses
      let elsewhere :=
        findKey (fun e' => decide (e'.owner = e.owner) && decide (e'.type = e.type)) (assocErase s1.tables.classes number)
      if elsewhere.isSome then refuse s1 .duplicate
      else ⟨s1.setClasses (assocSet s1.tables.classes number (.fresh e)), .ok, .none⟩
    else refuse s .range

/-- CLASS_PUT. -/
def execClassPut (tag : Byte) (number : Nat) (entry : ClassArgs) (s : State) : Outcome :=
  request (.classPut tag number entry) (fun s => s.classPut number entry) id s

/-- What CLASS.REMOVE does (R62). -/
def State.classRemove (s : State) (number : Nat) : Answered :=
  if within 0 63 number then
    match assocGet s.tables.classes number with
    | some _ => ⟨s.setClasses (assocErase s.tables.classes number), .ok, .none⟩
    | none => refuse s .absent
  else refuse s .range

/-- CLASS_REMOVE. -/
def execClassRemove (tag : Byte) (number : Nat) (s : State) : Outcome :=
  request (.classRemove tag number) (fun s => s.classRemove number) id s

/-- What CLASS.GET answers (R63): every reply carries the number of entries that are not EMPTY. -/
def State.classGet (s : State) (number : Nat) : Answered :=
  let n := occupied s.tables.classes
  if within 0 63 number then
    let s1 := s.examineClassAt number
    match assocGet s1.tables.classes number with
    | some e => ⟨s1, .ok, .classEntry (some e.report) n⟩
    | none => ⟨s1, .absent, .classEntry none n⟩
  else ⟨s, .range, .classEntry none n⟩

/-- CLASS_GET. -/
def execClassGet (tag : Byte) (number : Nat) (s : State) : Outcome :=
  request (.classGet tag number) (fun s => s.classGet number) id s

/-! ## The Mark List -/

/-- What MARK.PUT does (R65). -/
def State.markPut (s : State) (owner serial mark : Nat) : Answered :=
  match markOf mark with
  | none => refuse s .range
  | some m =>
    if keyInRange owner serial then
      let s1 := s.examineMarks
      let e : MarkEntry := ⟨owner, serial, m⟩
      match s1.markAt owner serial with
      | some (k, _) => ⟨s1.setMarks (assocSet s1.tables.marks k (.fresh e)), .ok, .slot k⟩
      | none =>
        match slotFor Config.markCount s1.tables.marks with
        | some k => ⟨s1.setMarks (assocSet s1.tables.marks k (.fresh e)), .ok, .slot k⟩
        | none => refuse s1 .full
    else refuse s .range

/-- MARK_PUT. -/
def execMarkPut (tag : Byte) (owner serial mark : Nat) (s : State) : Outcome :=
  request (.markPut tag owner serial mark) (fun s => s.markPut owner serial mark) id s

/-- What MARK.REMOVE does (R66). -/
def State.markRemove (s : State) (sel : MarkSel) : Answered :=
  match sel with
  | .key owner serial =>
    if keyInRange owner serial then
      let s1 := s.examineMarks
      match s1.markAt owner serial with
      | some (k, _) => ⟨s1.setMarks (assocErase s1.tables.marks k), .ok, .none⟩
      | none => refuse s1 .absent
    else refuse s .range
  | .slot k =>
    if within 0 127 k then
      match assocGet s.tables.marks k with
      | some _ => ⟨s.setMarks (assocErase s.tables.marks k), .ok, .none⟩
      | none => refuse s .absent
    else refuse s .range

/-- MARK_REMOVE. -/
def execMarkRemove (tag : Byte) (sel : MarkSel) (s : State) : Outcome :=
  request (.markRemove tag sel) (fun s => s.markRemove sel) id s

/-- What MARK.GET answers (R66): every reply carries the number of slots that are not EMPTY. -/
def State.markGet (s : State) (sel : MarkSel) : Answered :=
  let n := occupied s.tables.marks
  match sel with
  | .key owner serial =>
    if keyInRange owner serial then
      let s1 := s.examineMarks
      match s1.markAt owner serial with
      | some (k, e) => ⟨s1, .ok, .markEntry (some (k, .usable e)) n⟩
      | none => ⟨s1, .absent, .markEntry none n⟩
    else ⟨s, .range, .markEntry none n⟩
  | .slot k =>
    if within 0 127 k then
      let s1 := s.examineMarkAt k
      match assocGet s1.tables.marks k with
      | some e => ⟨s1, .ok, .markEntry (some (k, e.report)) n⟩
      | none => ⟨s1, .absent, .markEntry none n⟩
    else ⟨s, .range, .markEntry none n⟩

/-- MARK_GET. -/
def execMarkGet (tag : Byte) (sel : MarkSel) (s : State) : Outcome :=
  request (.markGet tag sel) (fun s => s.markGet sel) id s

/-! ## The Pool Table -/

/-- What POOL.PUT does (R67). -/
def State.poolPut (s : State) (pool : Nat) (accepted : BitVec 64) (overrides : List Override) : Answered :=
  if within 0 15 pool && poolInRange accepted overrides then
    ⟨s.setPools (assocSet s.tables.pools pool (.fresh ⟨accepted, overrides⟩)), .ok, .none⟩
  else refuse s .range

/-- POOL_PUT. -/
def execPoolPut (tag : Byte) (pool : Nat) (accepted : BitVec 64) (overrides : List Override) (s : State) : Outcome :=
  request (.poolPut tag pool accepted overrides) (fun s => s.poolPut pool accepted overrides) id s

/-- Some usable account names the pool, in a table already examined (R68). -/
def State.poolNamed (s : State) (pool : Nat) : Bool :=
  (findKey (fun a => decide (a.pool = pool)) s.tables.accounts).isSome

/-- What POOL.REMOVE does (R68). -/
def State.poolRemove (s : State) (pool : Nat) : Answered :=
  if within 0 15 pool then
    match assocGet s.tables.pools pool with
    | none => refuse s .absent
    | some _ =>
      let s1 := s.examineAccounts
      if s1.poolNamed pool then refuse s1 .inUse
      else ⟨s1.setPools (assocErase s1.tables.pools pool), .ok, .none⟩
  else refuse s .range

/-- POOL_REMOVE. -/
def execPoolRemove (tag : Byte) (pool : Nat) (s : State) : Outcome :=
  request (.poolRemove tag pool) (fun s => s.poolRemove pool) id s

/-- What POOL.GET answers (R68). -/
def State.poolGet (s : State) (pool : Nat) : Answered :=
  if within 0 15 pool then
    let s1 := s.examinePoolAt pool
    match assocGet s1.tables.pools pool with
    | some e => ⟨s1, .ok, .poolEntry e.report⟩
    | none => refuse s1 .absent
  else refuse s .range

/-- POOL_GET. -/
def execPoolGet (tag : Byte) (pool : Nat) (s : State) : Outcome :=
  request (.poolGet tag pool) (fun s => s.poolGet pool) id s

/-! ## The Account Table -/

/-- What ACCOUNT.PUT does (R69). -/
def State.accountPut (s : State) (number : Nat) (fields : AccountArgs) : Answered :=
  match accountEntryOf number fields with
  | none => refuse s .range
  | some e =>
    let s1 := s.examinePoolAt e.pool
    match s1.poolAt e.pool with
    | none => refuse s1 .absent
    | some _ =>
      let s2 := s1.examineAccounts
      match s2.accountOf number with
      | some (k, _) => ⟨s2.setAccounts (assocSet s2.tables.accounts k (.fresh e)), .ok, .slot k⟩
      | none =>
        match slotFor Config.accountCount s2.tables.accounts with
        | some k => ⟨s2.setAccounts (assocSet s2.tables.accounts k (.fresh e)), .ok, .slot k⟩
        | none => refuse s2 .full

/-- ACCOUNT_PUT. -/
def execAccountPut (tag : Byte) (number : Nat) (fields : AccountArgs) (s : State) : Outcome :=
  request (.accountPut tag number fields) (fun s => s.accountPut number fields) id s

/-- A lane drop, or a record that is not final, names the account (R70). -/
def State.accountNamed (s : State) (number : Nat) : Bool :=
  allLanes.any (fun i =>
    match (s.lane i).drop with
    | some d => decide (d.record.account = number)
    | none => false) ||
  s.store.any (fun p => !p.2.final && decide (p.2.drop.account = number))

/-- An account entry is removed by its slot and the number it holds, unless the account is named (R70). -/
def State.accountErase (s : State) (k number : Nat) : Answered :=
  if s.accountNamed number then refuse s .inUse
  else ⟨s.setAccounts (assocErase s.tables.accounts k), .ok, .none⟩

/-- What ACCOUNT.REMOVE does (R70). A USABLE slot is examined before its number is read; one found failing is UNUSABLE and is removed
without the test. -/
def State.accountRemove (s : State) (sel : AccountSel) : Answered :=
  match sel with
  | .number n =>
    if within 1 65535 n then
      let s1 := s.examineAccounts
      match s1.accountOf n with
      | some (k, _) => s1.accountErase k n
      | none => refuse s1 .absent
    else refuse s .range
  | .slot k =>
    if within 0 255 k then
      let s1 := s.examineAccountAt k
      match assocGet s1.tables.accounts k with
      | some (.usable a _) => s1.accountErase k a.number
      | some .unusable => ⟨s1.setAccounts (assocErase s1.tables.accounts k), .ok, .none⟩
      | none => refuse s1 .absent
    else refuse s .range

/-- ACCOUNT_REMOVE. -/
def execAccountRemove (tag : Byte) (sel : AccountSel) (s : State) : Outcome :=
  request (.accountRemove tag sel) (fun s => s.accountRemove sel) id s

/-- What ACCOUNT.GET answers (R70): every reply carries the number of slots that are not EMPTY. -/
def State.accountGet (s : State) (sel : AccountSel) : Answered :=
  let n := occupied s.tables.accounts
  match sel with
  | .number number =>
    if within 1 65535 number then
      let s1 := s.examineAccounts
      match s1.accountOf number with
      | some (k, e) => ⟨s1, .ok, .accountEntry (some (k, .usable e)) n⟩
      | none => ⟨s1, .absent, .accountEntry none n⟩
    else ⟨s, .range, .accountEntry none n⟩
  | .slot k =>
    if within 0 255 k then
      let s1 := s.examineAccountAt k
      match assocGet s1.tables.accounts k with
      | some e => ⟨s1, .ok, .accountEntry (some (k, e.report)) n⟩
      | none => ⟨s1, .absent, .accountEntry none n⟩
    else ⟨s, .range, .accountEntry none n⟩

/-- ACCOUNT_GET. -/
def execAccountGet (tag : Byte) (sel : AccountSel) (s : State) : Outcome :=
  request (.accountGet tag sel) (fun s => s.accountGet sel) id s

end Sys2Proof.Machine
end

