-- ==== Sys2Proof/Machine/Timers.lean ====
section
/-! DEFINITION. The meanings of the timers of the Sighting List (R91), the drains (R106, R107) and the claim deadlines (R133). -/

namespace Sys2Proof.Machine

/-- SIGHTING_AGED (R91): the oldest entry leaves once it has reached the hold period. -/
def execSightingAged (s : State) : Outcome :=
  event (fun s =>
    match s.sightings with
    | [] => s
    | e :: rest => if s.aged e then { s.countYard .aged with sightings := rest } else s) s

/-- DRAIN_QUIET_POINT (R106). -/
def execDrainQuietPoint (i : LaneIdx) (s : State) : Outcome := event (fun s => s.quietTest i) s

/-- DRAIN_LIMIT (R107). -/
def execDrainLimit (i : LaneIdx) (s : State) : Outcome :=
  event (fun s => if (s.lane i).drainLimitReached s.now then s.cutDrain i else s) s

/-- The deadline of a record has run out (R133). -/
def SettleRec.deadlineReached (r : SettleRec) (now : Nat) : Bool :=
  match r.state with
  | .awaiting t => decide (t ≤ now)
  | _ => false

/-- CLAIM_DEADLINE_EXPIRY (R133). -/
def execClaimDeadlineExpiry (k : SlotIdx) (s : State) : Outcome :=
  event (fun s =>
    match s.recordAt k with
    | none => s
    | some r => if r.deadlineReached s.now then (s.creditMove k r r.outstanding .expired).enterParked else s) s

end Sys2Proof.Machine
end

