-- ==== Sys2Proof/Machine/Dispatch.lean ====
section
/-! DEFINITION. One arm per command. -/

namespace Sys2Proof.Machine

/-- The effect of a command on everything but the queue. -/
def exec (i : Instr) (s : State) : Host.Outcome State Fault Refusal :=
  match i with
  | .powerOnReset => Sys2Proof.Machine.execPowerOnReset s
  | .rstAssert => Sys2Proof.Machine.execRstAssert s
  | .beamLineChange lane beam high => Sys2Proof.Machine.execBeamLineChange lane beam high s
  | .beamEdge lane beam => Sys2Proof.Machine.execBeamEdge lane beam s
  | .longLimit lane => Sys2Proof.Machine.execLongLimit lane s
  | .stuckLimit lane beam => Sys2Proof.Machine.execStuckLimit lane beam s
  | .faultClear lane => Sys2Proof.Machine.execFaultClear lane s
  | .headFrameDiscard lane frame check => Sys2Proof.Machine.execHeadFrameDiscard lane frame check s
  | .headByteTimeout lane => Sys2Proof.Machine.execHeadByteTimeout lane s
  | .codeFrame lane owner type serial => Sys2Proof.Machine.execCodeFrame lane owner type serial s
  | .measureFrame lane form value => Sys2Proof.Machine.execMeasureFrame lane form value s
  | .statusFrame lane condition => Sys2Proof.Machine.execStatusFrame lane condition s
  | .headSilence lane => Sys2Proof.Machine.execHeadSilence lane s
  | .earlyHoldExpiry lane => Sys2Proof.Machine.execEarlyHoldExpiry lane s
  | .lateGraceExpiry lane => Sys2Proof.Machine.execLateGraceExpiry lane s
  | .takeoffLineChange lane high => Sys2Proof.Machine.execTakeoffLineChange lane high s
  | .takeoffPulse lane => Sys2Proof.Machine.execTakeoffPulse lane s
  | .rejectLineChange lane high => Sys2Proof.Machine.execRejectLineChange lane high s
  | .rejectPress lane => Sys2Proof.Machine.execRejectPress lane s
  | .rejectWindowExpiry lane => Sys2Proof.Machine.execRejectWindowExpiry lane s
  | .sightingAged => Sys2Proof.Machine.execSightingAged s
  | .drainQuietPoint lane => Sys2Proof.Machine.execDrainQuietPoint lane s
  | .drainLimit lane => Sys2Proof.Machine.execDrainLimit lane s
  | .claimDeadlineExpiry slot => Sys2Proof.Machine.execClaimDeadlineExpiry slot s
  | .stationFrameDiscard station frame check => Sys2Proof.Machine.execStationFrameDiscard station frame check s
  | .stationByteTimeout station => Sys2Proof.Machine.execStationByteTimeout station s
  | .ready station => Sys2Proof.Machine.execReady station s
  | .stationLinkSilence station => Sys2Proof.Machine.execStationLinkSilence station s
  | .claim station number code => Sys2Proof.Machine.execClaim station number code s
  | .picked station n1 n2 n3 n4 => Sys2Proof.Machine.execPicked station n1 n2 n3 n4 s
  | .presented station => Sys2Proof.Machine.execPresented station s
  | .taken station => Sys2Proof.Machine.execTaken station s
  | .retracted station => Sys2Proof.Machine.execRetracted station s
  | .dispenserFault station code => Sys2Proof.Machine.execDispenserFault station code s
  | .dispenseStepTimeout station => Sys2Proof.Machine.execDispenseStepTimeout station s
  | .hostFrame frame check => Sys2Proof.Machine.execHostFrame frame check s
  | .hostByteTimeout => Sys2Proof.Machine.execHostByteTimeout s
  | .transmitDone => Sys2Proof.Machine.execTransmitDone s
  | .yardClockStep => Sys2Proof.Machine.execYardClockStep s
  | .unknownRequest tag kind => Sys2Proof.Machine.execUnknownRequest tag kind s
  | .partPing tag => Sys2Proof.Machine.execPartPing tag s
  | .partClock tag seconds => Sys2Proof.Machine.execPartClock tag seconds s
  | .partFilter tag groups => Sys2Proof.Machine.execPartFilter tag groups s
  | .partRestart tag => Sys2Proof.Machine.execPartRestart tag s
  | .partCounters tag => Sys2Proof.Machine.execPartCounters tag s
  | .laneOn tag lane => Sys2Proof.Machine.execLaneOn tag lane s
  | .laneOff tag lane => Sys2Proof.Machine.execLaneOff tag lane s
  | .laneSet tag lane config => Sys2Proof.Machine.execLaneSet tag lane config s
  | .laneGet tag lane clearPeak => Sys2Proof.Machine.execLaneGet tag lane clearPeak s
  | .laneJournal tag lane first count => Sys2Proof.Machine.execLaneJournal tag lane first count s
  | .laneCounters tag lane => Sys2Proof.Machine.execLaneCounters tag lane s
  | .classPut tag number entry => Sys2Proof.Machine.execClassPut tag number entry s
  | .classRemove tag number => Sys2Proof.Machine.execClassRemove tag number s
  | .classGet tag number => Sys2Proof.Machine.execClassGet tag number s
  | .markPut tag owner serial mark => Sys2Proof.Machine.execMarkPut tag owner serial mark s
  | .markRemove tag sel => Sys2Proof.Machine.execMarkRemove tag sel s
  | .markGet tag sel => Sys2Proof.Machine.execMarkGet tag sel s
  | .poolPut tag pool accepted overrides => Sys2Proof.Machine.execPoolPut tag pool accepted overrides s
  | .poolRemove tag pool => Sys2Proof.Machine.execPoolRemove tag pool s
  | .poolGet tag pool => Sys2Proof.Machine.execPoolGet tag pool s
  | .accountPut tag number fields => Sys2Proof.Machine.execAccountPut tag number fields s
  | .accountRemove tag sel => Sys2Proof.Machine.execAccountRemove tag sel s
  | .accountGet tag sel => Sys2Proof.Machine.execAccountGet tag sel s
  | .sightHold tag period => Sys2Proof.Machine.execSightHold tag period s
  | .sightFind tag owner serial => Sys2Proof.Machine.execSightFind tag owner serial s
  | .sightForget tag owner serial => Sys2Proof.Machine.execSightForget tag owner serial s
  | .dropOpen tag lane account driver declarations => Sys2Proof.Machine.execDropOpen tag lane account driver declarations s
  | .dropClose tag number => Sys2Proof.Machine.execDropClose tag number s
  | .dropResolve tag number entries => Sys2Proof.Machine.execDropResolve tag number entries s
  | .dropApprove tag number writeOff => Sys2Proof.Machine.execDropApprove tag number writeOff s
  | .dropAbandon tag number => Sys2Proof.Machine.execDropAbandon tag number s
  | .dropGet tag sel part => Sys2Proof.Machine.execDropGet tag sel part s
  | .recordCredit tag number => Sys2Proof.Machine.execRecordCredit tag number s
  | .recordClear tag sel => Sys2Proof.Machine.execRecordClear tag sel s
  | .recordGet tag sel => Sys2Proof.Machine.execRecordGet tag sel s
  | .stationOpen tag station => Sys2Proof.Machine.execStationOpen tag station s
  | .stationClose tag station => Sys2Proof.Machine.execStationClose tag station s
  | .stationLoad tag station cassettes claimPeriod takePeriod returnTally => Sys2Proof.Machine.execStationLoad tag station cassettes claimPeriod takePeriod returnTally s
  | .stationGet tag station => Sys2Proof.Machine.execStationGet tag station s
  | .hostByteReceived byte stopOk => Sys2Proof.Machine.execHostByteReceived byte stopOk s
  | .takeoffSettledFall lane => Sys2Proof.Machine.execTakeoffSettledFall lane s
  | .rejectSettledRelease lane => Sys2Proof.Machine.execRejectSettledRelease lane s

end Sys2Proof.Machine
end

