-- ==== Sys2Proof/Machine/Idle.lean ====
section
/-! DEFINITION. What the part does of its own when no command waits: a timer that has run out acts, a waiting request is taken, or else
1 ms of elapsed time passes (log 1, log 3). -/

namespace Sys2Proof.Machine

/-- Something the part does of its own. -/
inductive Own where
  /-- A timer has run out, or the request at the head of the buffer is taken. -/
  | command (c : Instr)
  /-- The request at the head of the buffer has a body its kind does not allow (R176). -/
  | malformed (f : Frame) (rest : List Frame)
  deriving DecidableEq, Repr

def when (holds : Bool) (c : Instr) : List Instr := if holds then [c] else []

/-- The timers of a lane that have run out. -/
def Lane.due (l : Lane) (i : LaneIdx) (now : Nat) : List Instr :=
  when (l.beamA.ran Config.beamHoldMs now) (.beamEdge i .a) ++
  when (l.beamB.ran Config.beamHoldMs now) (.beamEdge i .b) ++
  when (l.longReached now) (.longLimit i) ++
  when (l.stuckReached .a now) (.stuckLimit i .a) ++
  when (l.stuckReached .b now) (.stuckLimit i .b) ++
  when (l.faultClearReached now) (.faultClear i) ++
  when (l.silenceReached now) (.headSilence i) ++
  when (l.earlyReached now) (.earlyHoldExpiry i) ++
  when (l.graceReached now) (.lateGraceExpiry i) ++
  when (l.takeoff.ran Config.beamHoldMs now && !l.takeoff.settled) (.takeoffPulse i) ++
  when (l.takeoff.ran Config.beamHoldMs now && l.takeoff.settled) (.takeoffSettledFall i) ++
  when (l.reject.ran Config.rejectHoldMs now && !l.reject.settled) (.rejectPress i) ++
  when (l.reject.ran Config.rejectHoldMs now && l.reject.settled) (.rejectSettledRelease i) ++
  when (l.rejectReached now) (.rejectWindowExpiry i) ++
  when (l.headRx.gapReached now) (.headByteTimeout i) ++
  when (l.quiet now) (.drainQuietPoint i) ++
  when (l.drainLimitReached now) (.drainLimit i)

/-- The timers of a station that have run out. -/
def Station.due (t : Station) (x : StationId) (now : Nat) : List Instr :=
  when (t.silenceReached now) (.stationLinkSilence x) ++
  when (t.stepReached now) (.dispenseStepTimeout x) ++
  when (t.rx.gapReached now) (.stationByteTimeout x)

/-- The oldest sighting has reached the hold period. -/
def State.sightingDue (s : State) : Bool :=
  match s.sightings with
  | e :: _ => s.aged e
  | [] => false

/-- The timers of the part that have run out. -/
def State.due (s : State) : List Instr :=
  when s.clockDue .yardClockStep ++
  allLanes.flatMap (fun i => (s.lane i).due i s.now) ++
  when s.sightingDue .sightingAged ++
  s.store.flatMap (fun p => when (p.2.deadlineReached s.now) (.claimDeadlineExpiry p.1)) ++
  s.stationA.due .a s.now ++ s.stationB.due .b s.now ++
  when (s.host.rx.gapReached s.now) .hostByteTimeout

/-- The request at the head of the buffer, when it can be taken now (R176). -/
def State.takeable (s : State) : List Own :=
  if s.replyOut then []
  else
    match s.host.reqBuf with
    | [] => []
    | f :: rest =>
      match parseRequest f with
      | some c => [.command c]
      | none => [.malformed f rest]

/-- Everything the part could do of its own now. -/
def State.own (s : State) : List Own := s.takeable ++ s.due.map Own.command

/-- One of several own events is taken: a free choice when there is more than one (log 3). -/
def chosen (choices : Nat) (first : Own) (others : List Own) : Own :=
  match others with
  | [] => first
  | _ :: _ => ((first :: others)[Config.ownEventChoice choices % (others.length + 1)]?).getD first

/-- An own event acts. -/
def State.act (s : State) : Own → Outcome
  | .command c => exec c s
  | .malformed f rest => event (takeMalformed f rest) s

/-- What the part does when no command waits. While RST is held nothing happens (R183). -/
def idle (s : State) : Outcome :=
  if s.rstHeld then .next s
  else
    match s.own with
    | [] => .next { s with now := s.now + 1 }
    | first :: others => { s with choices := s.choices + 1 }.act (chosen s.choices first others)

end Sys2Proof.Machine
end

