-- ==== Sys2Proof/Safety.lean ====
section
/-! DEFINITION. What statements about the part speak of: when a request is taken, the reply it leaves, and the laws of the part that every
step keeps. -/

namespace Sys2Proof.Machine

/-! ## Requests -/

/-- A request sent now is taken in its own event: RST is released, no reply is out and no request waits before it (R176). -/
def State.ready (s : State) : Prop := s.rstHeld = false ∧ s.replyOut = false ∧ s.host.reqBuf = []

/-- The same part with these requests waiting in the buffer (R176). -/
def State.buffering (s : State) (waiting : List Frame) : State := { s with host := { s.host with reqBuf := waiting } }

/-- A reply has been formed and waits for the transmitter (R176). -/
def State.replied (s : State) (kind tag : Byte) (status : Status) (result : Result) : State :=
  { s with host := { s.host with reply := some ⟨kind, tag, status, result⟩ } }

/-! ## Table 1-2 -/

/-- The gate state after a settled edge, by the places of Table 1-1: the row is the state before, the columns A blocks, A clears,
B blocks, B clears. -/
def gateTable : List (List Nat) :=
  [[1, 0, 5, 0],
   [1, 0, 2, 1],
   [2, 3, 2, 1],
   [4, 3, 3, 0],
   [4, 3, 4, 1],
   [6, 5, 5, 0],
   [6, 5, 6, 7],
   [7, 0, 6, 7]]

/-- The column of an edge in Table 1-2. -/
def edgeColumn (x : Beam) (blocks : Bool) : Nat :=
  match x, blocks with
  | .a, true => 0
  | .a, false => 1
  | .b, true => 2
  | .b, false => 3

/-- The gate state Table 1-2 gives after an edge. -/
def tableAfter (gate : Nat) (x : Beam) (blocks : Bool) : Nat := ((gateTable[gate]?.getD [])[edgeColumn x blocks]?).getD 9

/-- The cells of Table 1-2, as state and column, at which a lane counter of the gate rises. -/
def forwardCells : List (Nat × Nat) := [(3, 3), (4, 3)]
def reverseCells : List (Nat × Nat) := [(7, 1)]
def bounceCells : List (Nat × Nat) := [(1, 1), (4, 1), (5, 3)]
def glitchCells : List (Nat × Nat) :=
  [(0, 1), (0, 3), (1, 0), (1, 3), (2, 0), (2, 2), (3, 1), (3, 2), (4, 0), (4, 2), (5, 1), (5, 2), (6, 0), (6, 2), (7, 0), (7, 3)]

/-- A counter after an edge, raised when the edge's cell is among these. -/
def Counter.afterEdge (c : Counter) (cells : List (Nat × Nat)) (gate : Nat) (x : Beam) (blocks : Bool) : Counter :=
  if cells.contains (gate, edgeColumn x blocks) then c.raise else c

/-! ## Abandoned items (R14, R17) -/

/-- The ABANDONED entries of the items a gate holds: in EXIT_ENTER the older item's first (log 15), a reversing item's LONG flag clear
(log 27), the model's choices. -/
def abandonedEntries (gate : Gate) (now : Nat) : List JournalBody :=
  let forward (it : FwdItem) : JournalBody := .abandoned .forward (now - it.opened) it.long
  let reversing (seen : Nat) : List JournalBody := [.abandoned .reversing (now - seen) false]
  match gate with
  | .enter it => [forward it]
  | .span it => [forward it]
  | .exit it => [forward it]
  | .exitEnter it e => [forward it, forward e]
  | .back seen => reversing seen
  | .backSpan seen => reversing seen
  | .backExit seen => reversing seen
  | _ => []

/-- Each of these entries is written to a lane's journal and counts one abandoned item. -/
def State.abandoning (s : State) (i : LaneIdx) (entries : List JournalBody) : State :=
  entries.foldl (fun u e => (u.journalWrite i e).modLane i (fun l => { l with counters := l.counters.raise .abandoned })) s

/-! ## The loss of a head (R21) -/

/-- Every forward item of the gate is marked head-lost: in EXIT_ENTER both (the model's reading, log 15). -/
def headLostGate (gate : Gate) : Gate :=
  let mark (it : FwdItem) : FwdItem := { it with headLost := true }
  match gate with
  | .enter it => .enter (mark it)
  | .span it => .span (mark it)
  | .exit it => .exit (mark it)
  | .exitEnter it e => .exitEnter (mark it) (mark e)
  | g => g

/-- The head of a lane is lost, its last fault code being `code` from now: the effects of R21 in its order. -/
def State.headLosing (s : State) (i : LaneIdx) (cause : HeadCause) (code : Nat) : State :=
  ((s.modLane i (fun l => { l with
    head := .lost, lastFault := code, early := none,
    counters := if l.early = none then l.counters else l.counters.raise .strayReads,
    gate := headLostGate l.gate,
    waiting := l.waiting.map (fun w => { w with item := { w.item with headLost := true } }) })).journalWrite i
      (.fault (.headLost cause))).post (.headLost i cause)

/-! ## Table 7-4 -/

/-- The answer Table 7-4 gives a claim, row by row. -/
def State.claimTable (s : State) (x : StationId) (number code : Nat) : Answer :=
  match (if number = 0 then none else s.findRecord number) with
  | none => .unknownDrop
  | some (_, r) =>
    if r.station ≠ some x then .wrongStation
    else if r.state = .held then .notReady
    else if r.state = .claimed ∨ r.state = .dispensing then .inProgress
    else if r.final then .closedOut
    else if (s.station x).state.tag ≠ .opened ∧ (s.station x).state.tag ≠ .serving then .stationOut
    else if code ≠ r.drop.checkCode then (if r.badChecks + 1 < 3 then .badCheck else .locked)
    else if 4 ≤ (s.station x).queue.length then .queueFull
    else .queued

/-! ## Events -/

/-- The lane at which an event of its lines, its sensor head or its timers happens. -/
def eventLane : Instr → Option LaneIdx
  | .beamLineChange i _ _ => some i
  | .beamEdge i _ => some i
  | .longLimit i => some i
  | .stuckLimit i _ => some i
  | .faultClear i => some i
  | .headFrameDiscard i _ _ => some i
  | .headByteTimeout i => some i
  | .codeFrame i _ _ _ => some i
  | .measureFrame i _ _ => some i
  | .statusFrame i _ => some i
  | .headSilence i => some i
  | .earlyHoldExpiry i => some i
  | .lateGraceExpiry i => some i
  | .takeoffLineChange i _ => some i
  | .takeoffPulse i => some i
  | .takeoffSettledFall i => some i
  | .rejectLineChange i _ => some i
  | .rejectPress i => some i
  | .rejectSettledRelease i => some i
  | .rejectWindowExpiry i => some i
  | .drainQuietPoint i => some i
  | .drainLimit i => some i
  | _ => none

/-- The station on whose link an event happens, or whose timer runs out. -/
def eventStation : Instr → Option StationId
  | .stationFrameDiscard x _ _ => some x
  | .stationByteTimeout x => some x
  | .ready x => some x
  | .stationLinkSilence x => some x
  | .claim x _ _ => some x
  | .picked x _ _ _ _ => some x
  | .presented x => some x
  | .taken x => some x
  | .retracted x => some x
  | .dispenserFault x _ => some x
  | .dispenseStepTimeout x => some x
  | _ => none

/-! ## Timers -/

/-- The timer of a command has run for its time: the moments at which the rules let the part act of its own. -/
def State.timerRan (s : State) : Instr → Prop
  | .beamEdge i x => ∃ t, ((s.lane i).beam x).hold = some t ∧ t + 3 ≤ s.now
  | .longLimit i => ∃ it t, ((s.lane i).gate = .enter it ∨ (s.lane i).gate = .span it ∨ ∃ e, (s.lane i).gate = .exitEnter e it) ∧
      it.longTimer = some t ∧ it.long = false ∧ t + (s.lane i).cfg.longLimit ≤ s.now
  | .stuckLimit i x => (s.lane i).gate ≠ .reset ∧ (s.lane i).gate.beamFault = none ∧
      ∃ t, (s.lane i).stuck x = some t ∧ t + (s.lane i).cfg.stuckLimit * 1000 ≤ s.now
  | .faultClear i => ∃ beams t, (s.lane i).gate = .fault beams (some t) ∧ t + 2000 ≤ s.now
  | .headByteTimeout i => ∃ bs t, (s.lane i).headRx = .assembling bs t ∧ t + 20 ≤ s.now
  | .headSilence i => ∃ t, (s.lane i).head = .present t ∧ t + 2000 ≤ s.now
  | .earlyHoldExpiry i => ∃ h, (s.lane i).early = some h ∧ h.since + (s.lane i).cfg.earlyHold ≤ s.now
  | .lateGraceExpiry i => ∃ t, (s.lane i).grace = some t ∧ t + (s.lane i).cfg.lateGrace ≤ s.now
  | .takeoffPulse i => (s.lane i).takeoff.settled = false ∧ ∃ t, (s.lane i).takeoff.hold = some t ∧ t + 3 ≤ s.now
  | .takeoffSettledFall i => (s.lane i).takeoff.settled = true ∧ ∃ t, (s.lane i).takeoff.hold = some t ∧ t + 3 ≤ s.now
  | .rejectPress i => (s.lane i).reject.settled = false ∧ ∃ t, (s.lane i).reject.hold = some t ∧ t + 20 ≤ s.now
  | .rejectSettledRelease i => (s.lane i).reject.settled = true ∧ ∃ t, (s.lane i).reject.hold = some t ∧ t + 20 ≤ s.now
  | .rejectWindowExpiry i => ∃ e, (s.lane i).rejects.getLast? = some e ∧ e.completed + (s.lane i).cfg.rejectWindow ≤ s.now
  | .drainQuietPoint i => ∃ d closed, (s.lane i).drop = some ⟨d, .draining closed⟩ ∧
      (s.lane i).lastABlock.getD closed + (s.lane i).cfg.drainQuiet ≤ s.now ∧ (s.lane i).gate = .idle ∧ (s.lane i).grace = none
  | .drainLimit i => ∃ d closed, (s.lane i).drop = some ⟨d, .draining closed⟩ ∧ closed + (s.lane i).cfg.drainLimit * 1000 ≤ s.now
  | .sightingAged => ∃ e, s.sightings.head? = some e ∧ e.lastSeen + s.holdPeriod * 1000 ≤ s.now
  | .claimDeadlineExpiry k => ∃ r t, (k, r) ∈ s.store ∧ r.state = .awaiting t ∧ t ≤ s.now
  | .stationByteTimeout x => ∃ bs t, (s.station x).rx = .assembling bs t ∧ t + 20 ≤ s.now
  | .stationLinkSilence x => ∃ t, (s.station x).link = .up t ∧ t + 3000 ≤ s.now
  | .dispenseStepTimeout x => ∃ d, (s.station x).state.dispense = some d ∧ d.timeout ≤ s.now
  | .hostByteTimeout => ∃ bs t, s.host.rx = .assembling bs t ∧ t + 20 ≤ s.now
  | .yardClockStep => s.host.clockBase + 1000 ≤ s.now
  | _ => False

/-! ## Examinations (R58, R59) -/

/-- A table with each USABLE entry whose check disagrees made UNUSABLE, and every other entry as it was. -/
def checkedTable {α : Type} [DecidableEq α] (t : Table α) : Table α :=
  t.map (fun p => (p.1, match p.2 with
    | .usable c w => if c = w then .usable c w else .unusable
    | .unusable => .unusable))

/-- The indices of the USABLE entries whose check disagrees. -/
def brokenEntries {α : Type} [DecidableEq α] (t : Table α) : List Nat :=
  (t.filter (fun p => match p.2 with | .usable c w => decide (c ≠ w) | .unusable => false)).map Prod.fst

/-- Apart from the tables, an examination that finds these entries failing posts one TABLE_FAULT and counts one for each (R59). -/
def State.faultsReported (s u : State) (table : TableName) (ks : List Nat) : Prop :=
  u.host = (ks.foldl (fun t k => t.post (.tableFault table k)) s).host ∧
  (s.yard.tableFaults < 4294967296 → u.yard.tableFaults = (s.yard.tableFaults + ks.length) % 4294967296) ∧
  u.yard = { (ks.foldl (fun t k => t.post (.tableFault table k)) s).yard with tableFaults := u.yard.tableFaults } ∧
  u = { s with host := u.host, yard := u.yard, tables := u.tables }

/-! ## Frames -/

/-- Time, settings, generators, the host receiver and the waiting requests and commands are as they were. -/
def State.keepsSettings (s u : State) : Prop :=
  u.rstHeld = s.rstHeld ∧ u.now = s.now ∧ u.holdPeriod = s.holdPeriod ∧ u.lastDrop = s.lastDrop ∧ u.checkPos = s.checkPos ∧
  u.choices = s.choices ∧ u.pending = s.pending ∧ u.host.rx = s.host.rx ∧ u.host.reqBuf = s.host.reqBuf ∧
  u.host.filter = s.host.filter ∧ u.host.clock = s.host.clock ∧ u.host.clockBase = s.host.clockBase

/-- The fields of a record that no event after its settling changes: its drop, hold reasons, amount and cash part. -/
def SettleRec.sameBase (r r' : SettleRec) : Prop :=
  r'.drop = r.drop ∧ r'.reasons = r.reasons ∧ r'.amount = r.amount ∧ r'.cashPart = r.cashPart

/-! ## What the part sends (R184, R185)

Where the tables give no size or order, they are those of log 18. -/

/-- A number of so many bytes, the least significant first. -/
def sized (size value : Nat) : List Byte := (List.range size).map (fun n => BitVec.ofNat 8 (value / 256 ^ n))

/-- A value by its place, from 0, in the order in which the manual lists its enumeration. -/
def listed {α : Type} [DecidableEq α] (order : List α) (x : α) : List Byte := sized 1 (order.idxOf x)

/-- The number of a set whose first listed value is the lowest bit. -/
def bitsOf (members : List Bool) : Nat := members.foldr (fun b n => (if b then 1 else 0) + 2 * n) 0

/-- A set of values, in the order in which the manual lists them. -/
def setOf {α : Type} [DecidableEq α] (order xs : List α) : List Byte := sized 1 (bitsOf (order.map (fun x => decide (x ∈ xs))))

/-- A field or group that may be absent. -/
def present (group : Option (List Byte)) : List Byte :=
  match group with
  | some bs => 1 :: bs
  | none => [0]

/-- A list with the count of its entries. -/
def counted (entries : List (List Byte)) : List Byte := sized 1 entries.length ++ entries.flatten

def flagged (b : Bool) : List Byte := [if b then 1 else 0]

def sentLane (i : LaneIdx) : List Byte := sized 1 (i.val + 1)

/-- Four bytes, 0xFFFFFFFF when absent. -/
def sentWord (v : Option Nat) : List Byte := sized 4 (v.getD 0xFFFFFFFF)

/-- Bytes that follow one another, each group at the offset a table gives it. -/
def laidOut (bs : List Byte) (rows : List (Nat × List Byte)) : Prop :=
  bs = rows.flatMap Prod.snd ∧ ∀ row ∈ rows, (bs.drop row.1).take row.2.length = row.2

def sentStamp (t : Stamp) : List Byte := sized 4 t.clock ++ sized 2 t.ms

def sentCode (c : Code) : List Byte := sized 2 c.owner ++ sized 1 c.type ++ sized 3 c.serial

def sentNotes (n : Four Nat) : List Byte := sized 1 n.c1 ++ sized 1 n.c2 ++ sized 1 n.c3 ++ sized 1 n.c4

def sentHeadCause : HeadCause → List Byte
  | .code n => [0] ++ sized 1 n
  | .silent => [1, 0]

def sentStationCause : StationCause → List Byte
  | .code n => [0] ++ sized 1 n
  | .request => [2, 0]
  | .link => [3, 0]
  | .linkBack => [4, 0]
  | .timeout step => [5] ++ listed [.pick, .present, .outcome] step
  | .sequence => [6, 0]
  | .overpick => [7, 0]

def dispositionOrder : List Disposition :=
  [.accepted, .heavy, .full, .repeated, .barred, .refused, .damaged, .resolved, .writtenOff]
def causeOrder : List Cause := [.unread, .multiCode, .noMeasure, .unknownCode, .wrongLane, .linesFull]
def captureOrder : List CaptureCause := [.ok, .unread, .multiCode, .noMeasure]
def recordOrder : List RecordTag := [.held, .awaiting, .claimed, .dispensing, .paid, .credited, .unresolved, .void]
def stationOrder : List StationTag := [.closed, .opened, .serving, .closing, .fault]
def laneOrder : List LaneState := [.off, .idle, .opened, .draining, .parked]
def reasonOrder : List HoldReason :=
  [.unresolved, .declared, .reverse, .long, .gateFault, .drainCut, .suspended, .overLimit]
def beamOrder : List FaultBeams := [.a, .b, .both]
def formOrder : List Form := [.layers, .weight]

/-- A capacity by its place among 8, 16 and 32. -/
def sentCapacity (n : Nat) : List Byte := sized 1 (if n = 8 then 0 else if n = 16 then 1 else 2)

/-- The fields of a notice, with its kind and group (Table 10-1). The numbers of the LINK_FAULT and PART_UP causes are the model's choice
(log 29). -/
def noticeRow : NoticeBody → Nat × Nat × List Byte
  | .partUp cause => (1, 0, listed [.power, .restart] cause ++ sized 2 Config.vendor ++ sized 1 Config.part ++ sized 1 Config.revision)
  | .linkFault cause kind tag => (2, 0, listed [.check, .length, .overrun] cause ++ [kind, tag])
  | .noticesLost number stamp kind => (3, 0, sized 2 number ++ sentStamp stamp ++ sized 1 kind)
  | .beamFault lane beams abandoned => (4, 1, sentLane lane ++ listed beamOrder beams ++ sized 1 abandoned)
  | .beamClear lane => (5, 1, sentLane lane)
  | .headLost lane cause => (6, 1, sentLane lane ++ sentHeadCause cause)
  | .headBack lane => (7, 1, sentLane lane)
  | .accumFull lane capacity => (8, 1, sentLane lane ++ sentCapacity capacity)
  | .readDegraded lane bad items => (9, 1, sentLane lane ++ sized 1 bad ++ sized 1 items)
  | .readRestored lane => (10, 1, sentLane lane)
  | .itemAlert lane drop seq code cls disposition reasons => (11, 2, sentLane lane ++ sized 2 drop ++ sized 6 seq ++ sentCode code ++
      sized 1 cls ++ listed dispositionOrder disposition ++ setOf [.barred, .full, .inspect] reasons)
  | .stray lane seq cause code => (12, 2, sentLane lane ++ sized 6 seq ++ listed captureOrder cause ++ present (code.map sentCode))
  | .dropDone drop lane account amount items unresolved reasons => (13, 3, sized 2 drop ++ sentLane lane ++ sized 2 account ++
      sized 6 amount ++ sized 5 items ++ sized 5 unresolved ++ setOf reasonOrder reasons)
  | .storeFull lane drop place => (14, 3, sentLane lane ++ sized 2 drop ++ sized 1 place)
  | .dropVoid drop lane source removed => (15, 3, sized 2 drop ++ sentLane lane ++ listed [.opened, .draining, .parked, .held] source ++
      sized 2 removed)
  | .recordRemoved drop slot state stamp => (16, 3, sized 2 drop ++ sized 1 slot ++ listed recordOrder state ++ sentWord stamp)
  | .settled drop lane account station amount cash credit code => (17, 4, sized 2 drop ++ sentLane lane ++ sized 2 account ++
      listed [.a, .b, .none] (station.getD .none) ++ sized 6 amount ++ sized 6 cash ++ sized 6 credit ++ sized 2 code)
  | .credit drop account station sum reason issued state => (18, 4, sized 2 drop ++ sized 2 account ++
      listed [.a, .b, .none] (station.getD .none) ++ sized 6 sum ++
      listed [.expired, .locked, .forced, .shortfall, .retract, .settle] reason ++ sized 6 issued ++ listed recordOrder state)
  | .payout drop account station cash notes denominations credit => (19, 4, sized 2 drop ++ sized 2 account ++ listed [.a, .b] station ++
      sized 6 cash ++ sized 1 notes.c1 ++ sized 3 denominations.c1 ++ sized 1 notes.c2 ++ sized 3 denominations.c2 ++
      sized 1 notes.c3 ++ sized 3 denominations.c3 ++ sized 1 notes.c4 ++ sized 3 denominations.c4 ++ sized 6 credit)
  | .unresolved drop account station amount notes step cause => (20, 4, sized 2 drop ++ sized 2 account ++ listed [.a, .b] station ++
      sized 6 amount ++ present (notes.map sentNotes) ++ listed [.pick, .present, .outcome] step ++ sentStationCause cause)
  | .stationChange station state up cause => (21, 5, listed [.a, .b] station ++ listed stationOrder state ++ listed [true, false] up ++
      sentStationCause cause)
  | .cassetteLow station cassette denomination count => (22, 5, listed [.a, .b] station ++ sized 1 cassette ++ sized 3 denomination ++
      sized 2 count)
  | .journalHalf lane unread newest => (23, 6, sentLane lane ++ sized 2 unread ++ sized 6 newest)
  | .journalWrap lane mark newest => (24, 6, sentLane lane ++ sized 6 mark ++ sized 6 newest)
  | .tableFault table index => (25, 7, listed [.cls, .mark, .pool, .account] table ++ sized 1 index)

/-- Table 10-7. The contents of bytes whose field is absent are the model's choice (log 29). -/
def itemRows (drop : Nat) (long : Bool) (capture : Capture) (cls : Option Nat) (outcome : ItemOutcome) (units : Nat) (value : Option Nat)
    (firstLane : Option LaneIdx) (opened aCleared completed : Nat) : List (Nat × List Byte) :=
  let code : Nat := match capture.code with
    | some c => c.owner + 2 ^ 12 * c.type + 2 ^ 20 * c.serial
    | none => 0
  let measurement : Nat := match capture.measurement with
    | some m => m.value + (if m.form = .weight then 2 ^ 15 else 0)
    | none => 0
  let first : Nat := match firstLane with
    | some i => i.val + 1
    | none => 0
  let result : Nat := match outcome with
    | .line d => dispositionOrder.idxOf d
    | .unresolved c => 6 + causeOrder.idxOf c
  [(0, sized 2 drop),
   (2, sized 1 (bitsOf [long, capture.code.isSome, capture.measurement.isSome, cls.isSome, value.isSome] + 2 ^ 5 * first)),
   (3, sized 5 code), (8, sized 2 measurement), (10, sized 1 (captureOrder.idxOf capture.cause + 16 * result)),
   (11, sized 1 (cls.getD 0)), (12, sized 1 units), (13, sized 3 (value.getD 0)),
   (16, sized 4 opened ++ sized 4 aCleared ++ sized 4 completed)]

def sentDeclaration (e : Declaration) : List Byte := sized 1 e.cls ++ sized 3 e.units

/-- The kind and body of a journal entry other than ITEM and STRAY. -/
def entryRow : JournalBody → Option (Nat × List Byte)
  | .item _ _ _ _ _ _ _ _ _ _ _ => none
  | .stray _ _ _ _ _ => none
  | .reverse seenB => some (2, sized 4 seenB)
  | .reject seq cls units => some (3, sized 6 seq ++ sized 1 cls ++ sized 1 units)
  | .abandoned direction held long => some (4, sized 1 (bitsOf [decide (direction = .reversing), long]) ++ sized 4 held)
  | .dropOpen drop account driver declarations => some (5, sized 2 drop ++ sized 2 account ++ counted (driver.map (fun c => [c])) ++
      counted (declarations.map sentDeclaration))
  | .dropClose drop how items amount => some (6, sized 2 drop ++ listed [.quiet, .cut, .abandoned] how ++ sized 5 items ++ sized 6 amount)
  | .fault (.beamFault beams) => some (7, [0] ++ listed beamOrder beams ++ [0])
  | .fault .beamClear => some (7, [1, 0, 0])
  | .fault (.headLost cause) => some (7, [2] ++ sentHeadCause cause)
  | .fault .headBack => some (7, [3, 0, 0])
  | .fault (.readDegraded bad items) => some (7, [4] ++ sized 1 bad ++ sized 1 items)
  | .fault .readRestored => some (7, [5, 0, 0])

/-- A line record. -/
def sentLine (l : Line) : List Byte :=
  sized 1 (l.cls.getD 0xFF) ++ listed dispositionOrder l.disposition ++ sized 3 l.value ++ sized 2 l.items ++ sized 3 l.units

/-- The state byte of a summary. -/
def sentTag (tag : DropTag) : List Byte :=
  listed ([.opened, .draining, .parked] ++ recordOrder.map DropTag.record) tag

/-- Table 10-5. -/
def dropRows (v : DropView) : List (Nat × List Byte) :=
  let d := v.record
  let fixed (n : Nat) (bs : List Byte) : List Byte := (bs ++ List.replicate n 0).take n
  let unresolved (t : Tally) : List Byte := sized 4 t.items ++ sized 5 t.units
  [(0, sized 2 d.number), (2, sentLane d.lane), (3, sentTag v.tag), (4, sized 2 d.account), (6, sized 2 d.checkCode),
   (8, listed [none, some .a, some .b, some .none] d.station), (9, sized 1 (bitsOf [d.gateFault, d.drainCut])),
   (10, sized 4 d.openStamp), (14, sentWord d.drainEndStamp), (18, sized 6 d.firstSeq), (24, sized 6 (d.lastSeq.getD 0)),
   (30, sized 2 d.reverse ++ sized 2 d.long ++ sized 2 d.rejects), (36, sized 6 v.amount), (42, sized 5 v.classified),
   (47, sized 1 d.lines.length),
   (48, unresolved d.unresolved.unread ++ unresolved d.unresolved.multiCode ++ unresolved d.unresolved.noMeasure ++
     unresolved d.unresolved.unknownCode ++ unresolved d.unresolved.wrongLane ++ unresolved d.unresolved.linesFull),
   (102, sized 1 d.declarations.length), (103, fixed 32 (d.declarations.map sentDeclaration).flatten),
   (135, sized 1 d.driver.length), (136, fixed 16 d.driver), (152, sentWord v.sinceClose), (156, sentWord v.toQuiet),
   (160, sized 1 v.place)]

/-- Table 10-6. -/
def recordRows (v : RecordView) : List (Nat × List Byte) :=
  [(0, sized 1 v.slot), (1, sized 2 v.number), (3, sentTag (.record v.tag)), (4, setOf reasonOrder v.reasons),
   (5, sized 6 v.amount ++ sized 6 v.cashPart ++ sized 6 v.creditIssued ++ sized 6 v.cashPaid ++ sized 6 v.outstanding ++
     sized 6 v.unresolvedAmount),
   (41, sentWord v.deadline), (45, sized 1 v.queuePlace), (46, sentWord v.finalStamp), (50, sized 1 v.finalPlace),
   (51, sized 1 v.retracts ++ sized 1 v.badChecks)]

/-- A LANE.GET reply. -/
def laneFields (v : LaneView) : List Byte :=
  let c := v.cfg
  listed laneOrder v.state ++ present (v.drop.map (sized 2)) ++ listed [.crate, .keg] c.kind ++ listed [.a, .b, .none] c.binding ++
  sentCapacity c.capacity ++ sized 2 c.longLimit ++ sized 1 c.stuckLimit ++ sized 2 c.earlyHold ++ sized 2 c.lateGrace ++
  sized 2 c.measureAge ++ sized 2 c.rejectWindow ++ sized 2 c.drainQuiet ++ sized 2 c.drainLimit ++
  sized 1 (if c.readWindow = 16 then 0 else if c.readWindow = 32 then 1 else if c.readWindow = 64 then 2 else 3) ++
  sized 1 c.declareCount ++ sized 1 c.clearRun ++ sized 1 v.gate ++ present (v.faultBeams.map (listed beamOrder)) ++
  listed [true, false] v.blockedA ++ listed [true, false] v.blockedB ++ sized 1 v.head ++ sized 1 v.lastFault ++
  present (v.measure.map (fun m => listed formOrder m.1.form ++ sized 2 m.1.value ++ sized 4 m.2)) ++ present (v.early.map sentCode) ++
  present (v.windowCode.map (fun c => match c with | .none => [0] | .one code => [1] ++ sentCode code | .multi => [2])) ++
  flagged v.graceRuns ++ flagged v.waits ++ sized 1 v.occupancy ++ sized 1 v.peak ++ flagged v.latch ++
  listed [.stop, .slow, .run] v.pacing ++ flagged v.degraded ++ sized 1 v.windowItems ++ sized 1 v.windowBad ++ sized 1 v.rejects ++
  present (v.newestReject.map (sized 2))

/-- A STATION.GET reply. -/
def stationFields (v : StationView) : List Byte :=
  let cassette (c : Cassette) : List Byte := sized 3 c.denomination ++ sized 2 c.count ++ sized 2 c.threshold ++ listed [true, false] c.armed
  listed stationOrder v.state ++ listed [true, false] v.up ++ sized 1 v.lastFault ++ cassette v.cassettes.c1 ++ cassette v.cassettes.c2 ++
  cassette v.cassettes.c3 ++ cassette v.cassettes.c4 ++ sized 3 v.claimPeriod ++ sized 1 v.takePeriod ++ sized 6 v.retractValue ++
  sized 4 v.retractNotes ++ counted (v.queue.map (sized 2)) ++ present (v.dispense.map (fun d => sized 2 d.number ++ sentNotes d.ordered ++
    sized 6 d.value ++ listed [.pick, .present, .outcome] d.step ++ present (d.picked.map sentNotes) ++ sized 3 d.timeLeft))

/-- The condition of a table entry that a get reports, with its fields when it is USABLE. -/
def sentReport {α : Type} (fields : α → List Byte) : Report α → List Byte
  | .usable x => [1] ++ present (some (fields x))
  | .unusable => [2] ++ present none

def classFields (e : ClassEntry) : List Byte :=
  sized 2 e.owner ++ sized 1 e.type ++ (match e.part with
    | .crate limit => [0] ++ sized 3 e.deposit ++ present (some (sized 1 limit)) ++ present none
    | .keg tare ullage full charge => [1] ++ sized 3 e.deposit ++ present none ++
        present (some (sized 2 tare ++ sized 2 ullage ++ sized 2 full ++ sized 3 charge)))

def markFields (e : MarkEntry) : List Byte := sized 2 e.owner ++ sized 3 e.serial ++ listed [.barred, .inspect] e.mark

def poolFields (e : PoolEntry) : List Byte :=
  sized 8 e.accepted.toNat ++ counted (e.overrides.map (fun o => sized 1 o.cls ++ sized 3 o.deposit))

def accountFields (e : AccountEntry) : List Byte :=
  sized 2 e.number ++ sized 1 e.pool ++ listed [.cash, .credit, .split] e.mode ++ sized 4 e.cashLimit ++ sized 1 e.tolerance ++
  sized 6 e.holdAbove ++ listed [.active, .suspended] e.state

/-- What follows the kind and status of a reply, but for the summaries and the journal. -/
def replyFields (kind : Byte) : Result → Option (List Byte)
  | .none => some []
  | .ping v => some (sized 2 Config.vendor ++ sized 1 Config.part ++ sized 1 Config.revision ++ (v.lanes.map (listed laneOrder)).flatten ++
      (v.stations.map (fun p => listed stationOrder p.1 ++ listed [true, false] p.2)).flatten ++ sized 4 v.clock ++ sized 1 v.notices ++
      flagged v.latch ++ sized 1 v.waiting)
  | .clock was => some (sized 4 was)
  | .filter groups => some [groups]
  | .yard y => some ([y.evicted, y.aged, y.tableFaults, y.unknownDrop, y.wrongStation, y.notReady, y.inProgress, y.closedOut, y.stationOut,
      y.badCheck, y.locked, y.queueFull, y.framesRejected, y.noticesDiscarded].map (sized 4)).flatten
  | .lane v => some (laneFields v)
  | .counters c => some ([c.forward, c.reverse, c.bounces, c.glitches, c.longItems, c.abandoned, c.paired, c.unread, c.multiCode,
      c.strayReads, c.strayItems, c.rejectsApplied, c.lateRejects, c.overflows, c.phantoms].map (fun n =>
        sized 4 n.value ++ flagged n.overflow)).flatten
  | .count n => some (sized (if kind = 0x42 then 2 else 1) n)
  | .slot n => some (sized 1 n)
  | .classEntry e n => some ((e.map (sentReport classFields)).getD [] ++ sized 1 n)
  | .markEntry e n => some ((e.map (fun p => sized 1 p.1 ++ sentReport markFields p.2)).getD [] ++ sized 1 n)
  | .poolEntry e => some (sentReport poolFields e)
  | .accountEntry e n => some ((e.map (fun p => sized 1 p.1 ++ sentReport accountFields p.2)).getD [] ++ sized 2 n)
  | .period n => some (sized 3 n)
  | .sight e size oldest => some ((e.map (fun v => sized 2 v.owner ++ sized 3 v.serial ++ sentLane v.firstLane ++
      present (v.firstDrop.map (sized 2)) ++ sized 3 v.elapsed ++ sized 1 v.repeats ++ sized 2 v.place)).getD [] ++ sized 2 size ++
      present (oldest.map (sized 3)))
  | .opened number code => some (sized 2 number ++ sized 2 code)
  | .resolved amount unresolved lines => some (sized 6 amount ++ sized 5 unresolved ++ sized 1 lines)
  | .approved amount state => some (sized 6 amount ++ listed recordOrder state)
  | .credited sum issued => some (sized 6 sum ++ sized 6 issued)
  | .tally returned => some (present (returned.map (fun p => sized 6 p.1 ++ sized 4 p.2)))
  | .station v => some (stationFields v)
  | .journal _ _ _ _ _ => none
  | .dropSummary _ _ => none
  | .dropLines _ _ _ _ => none
  | .record _ _ _ _ => none

/-! ## Laws of the part -/

/-- Every pacing output has the value R49 gives, or STOP while RST is held (R183). -/
def State.pacingLaw (s : State) : Prop := ∀ i, (s.lane i).pacing = if s.rstHeld then .stop else (s.lane i).pacingDue

/-- The transmitter is not idle while something waits for it (R177). -/
def State.transmitterLaw (s : State) : Prop :=
  s.rstHeld = false → s.host.tx = none → s.host.reply = none ∧ s.host.notices = []

/-- The notice queue and its latch (R178): at most 63 notices with the latch clear, 63 or 64 with it set. -/
def HostLink.noticeLaw (h : HostLink) : Prop :=
  if h.latch then 63 ≤ h.notices.length ∧ h.notices.length ≤ 64 else h.notices.length ≤ 63

/-- The queues of the Host Link keep to their capacities (R176, R178). -/
def State.hostLaw (s : State) : Prop := s.host.reqBuf.length ≤ 4 ∧ s.host.noticeLaw

/-- The money a record has given out or still holds (R126). -/
def SettleRec.money (r : SettleRec) : Nat := r.cashPaid + r.creditIssued + r.outstanding + r.unresolvedAmount

/-- No record's money exceeds its amount, and a HELD record has none (R126). -/
def State.moneyLaw (s : State) : Prop :=
  ∀ p ∈ s.store, p.2.money ≤ p.2.amount ∧ (p.2.state = .held → p.2.money = 0)

/-- The money of a record balances (R126): its cash paid, credit issued, outstanding cash and unresolved amount make up its amount once it
has settled; a HELD record has none (R115), a VOID one no amount either (R120); outstanding cash is above 0 exactly while it waits, is claimed
or is dispensed; cash paid and outstanding keep within the cash part. -/
def SettleRec.balanced (r : SettleRec) : Prop :=
  (r.state ≠ .held → r.money = r.amount) ∧ (r.state = .held → r.cashPart = 0 ∧ r.money = 0) ∧
  (r.state = .void → r.cashPart = 0 ∧ r.amount = 0) ∧
  (0 < r.outstanding ↔ r.state.tag = .awaiting ∨ r.state.tag = .claimed ∨ r.state.tag = .dispensing) ∧
  r.cashPaid + r.outstanding ≤ r.cashPart

/-- Every record's money balances (R126). -/
def State.balanceLaw (s : State) : Prop := ∀ p ∈ s.store, p.2.balanced

/-- The final order lists the final records, each once (R123, R125); a station's claim queue lists its CLAIMED records, each once, and its
dispense is of its one DISPENSING record (R147). -/
def State.claimLaw (s : State) : Prop :=
  s.finalOrder.Nodup ∧ (∀ k, k ∈ s.finalOrder ↔ ∃ r, s.recordAt k = some r ∧ r.final = true) ∧
  ∀ x, (s.station x).queue.Nodup ∧
    (∀ k, k ∈ (s.station x).queue ↔ ∃ r, s.recordAt k = some r ∧ r.state = .claimed ∧ r.station = some x) ∧
    (∀ k, (∃ d, (s.station x).state.dispense = some d ∧ d.slot = k) ↔
      ∃ r, s.recordAt k = some r ∧ r.state = .dispensing ∧ r.station = some x)

/-- The collections of a lane keep to their capacities: the journal to 256 entries (R165), the reject list to 16 (R54). -/
def State.laneLaw (s : State) : Prop := ∀ i, (s.lane i).journal.entries.length ≤ 256 ∧ (s.lane i).rejects.length ≤ 16

/-- The store's slots rise and are among the 32 (R123). -/
def State.storeLaw (s : State) : Prop :=
  (s.store.map Prod.fst).Pairwise (fun a b => a < b) ∧ ∀ p ∈ s.store, p.1 < 32

/-- The Sighting List holds at most 2,048 entries (R89). -/
def State.sightingLaw (s : State) : Prop := s.sightings.length ≤ 2048

/-- The claim queue of a station holds at most 4 records (R136). -/
def State.stationLaw (s : State) : Prop := ∀ x, (s.station x).queue.length ≤ 4

end Sys2Proof.Machine
end

