-- ==== Sys2Proof/Certificates/Slice0/Obligations.lean ====
section
/-! DEFINITION. The statements about the part, each a proposition that a prover is asked to prove. A statement in which a command
answers a next state written as an update of `s` says both what the command changes and, by what it does not name, its frame;
`finish` is what ends every event: the pacing outputs follow R49 and a free transmitter begins a frame. -/

open Sys2Proof Sys2Proof.Machine

/-! ## Steps and resets -/

/-- A step takes the command at the front of the queue, and runs it on the rest. -/
def Obligations.StepTakesFront : Prop :=
  ∀ (c : Instr) (rest : List Instr) (s : State), step { s with pending := c :: rest } = exec c { s with pending := rest }

/-- Every command, in every state and with every operand, completes with a next state and leaves the commands that wait alone. -/
def Obligations.EveryCommandCompletes : Prop :=
  ∀ (c : Instr) (s : State), ∃ t, exec c s = .next t ∧ t.pending = s.pending

/-- On an empty queue: nothing while RST is held; one of the things due, and the one thing due when there is no other; else 1 ms passes (the
model's choice, logs 1 and 3). What is due `OwnEvents` says. -/
def Obligations.EmptyQueueStep : Prop :=
  ∀ s : State, s.pending = [] →
    (s.rstHeld = true → step s = .next s) ∧
    (s.rstHeld = false → s.own = [] → step s = .next { s with now := s.now + 1 }) ∧
    (s.rstHeld = false → s.own ≠ [] → ∃ o ∈ s.own, step s = { s with choices := s.choices + 1 }.act o) ∧
    (∀ o, s.rstHeld = false → s.own = [o] → step s = { s with choices := s.choices + 1 }.act o)

/-- What the part can do of its own on an empty queue (the model's choice, logs 1, 3 and 23): the command of each timer that has run for its time,
and, while no reply is out, the request at the head of the buffer. A command acts as it does from the queue. A request whose body its kind does
not allow leaves the buffer and is answered RANGE, with the counts every reply of its kind carries (log 19). -/
def Obligations.OwnEvents : Prop :=
  (∀ (s : State) (c : Instr), c ∈ s.due ↔ s.timerRan c) ∧
  (∀ (s : State) (o : Own), o ∈ s.own ↔ (∃ c, s.timerRan c ∧ o = .command c) ∨
     (s.replyOut = false ∧ ∃ f rest, s.host.reqBuf = f :: rest ∧
       ((∃ c, parseRequest f = some c ∧ o = .command c) ∨ (parseRequest f = none ∧ o = .malformed f rest)))) ∧
  (∀ (s : State) (c : Instr), s.act (.command c) = exec c s) ∧
  (∀ (s : State) (f : Frame) (rest : List Frame), s.rstHeld = false →
     let counts : Result :=
       if f.kind = 0x22 then .classEntry none s.tables.classes.length
       else if f.kind = 0x2A then .markEntry none s.tables.marks.length
       else if f.kind = 0x3A then .accountEntry none s.tables.accounts.length
       else if f.kind = 0x41 then
         .sight none s.sightings.length (s.sightings.head?.map (fun e => (s.now - e.lastSeen) / 1000))
       else if f.kind = 0x52 then .record none s.store.length s.finalOrder.length s.parkOrder.length
       else .none
     s.act (.malformed f rest) = .next (finish { s with host := { s.host with
       reqBuf := rest, reply := some ⟨f.kind, f.tag, .range, counts⟩ } }))

/-- A power-on reset leaves what the rules state for it, whatever the part held, and PART_UP (POWER) is being sent as notice 1 (log 21). -/
def Obligations.PowerOnResetValues : Prop :=
  ∀ s : State, ∃ t, exec .powerOnReset s = .next t ∧
    t.rstHeld = false ∧ t.now = 0 ∧ t.yard = .zero ∧
    t.host.rx = .hunting ∧ t.host.reqBuf = [] ∧ t.host.reply = none ∧ t.host.notices = [] ∧ t.host.latch = false ∧
    t.host.filter = 0xFF ∧ t.host.clock = 0 ∧ t.host.tx = some (.notice ⟨1, ⟨0, 0⟩, .partUp .power⟩) ∧ t.host.nextNotice = 2 ∧
    t.tables.classes = [] ∧ t.tables.marks = [] ∧ t.tables.pools = [] ∧ t.tables.accounts = [] ∧ t.holdPeriod = 14400 ∧
    t.sightings = [] ∧ t.lastDrop = 0 ∧ t.checkPos = 0 ∧ t.parkOrder = [] ∧ t.store = [] ∧ t.finalOrder = [] ∧
    t.pending = s.pending ∧
    (∀ x, (t.station x).state = .closed ∧ (t.station x).link = .lost ∧ (t.station x).lastFault = 0 ∧
      (t.station x).cassettes = .const ⟨0, 0, 0, true⟩ ∧ (t.station x).claimPeriod = 1800 ∧ (t.station x).takePeriod = 30 ∧
      (t.station x).retractValue = 0 ∧ (t.station x).retractNotes = 0 ∧ (t.station x).queue = []) ∧
    (∀ i, (t.lane i).state = .off ∧ (t.lane i).drop = none ∧ (t.lane i).gate = .reset ∧ (t.lane i).cfg = .default ∧
      (t.lane i).beamA.settled = false ∧ (t.lane i).beamB.settled = false ∧ (t.lane i).takeoff.settled = false ∧
      (t.lane i).reject.settled = false ∧ (t.lane i).head = .off ∧ (t.lane i).lastFault = 0 ∧ (t.lane i).early = none ∧
      (t.lane i).measure = none ∧ (t.lane i).grace = none ∧ (t.lane i).waiting = none ∧ (t.lane i).occupancy = 0 ∧
      (t.lane i).peak = 0 ∧ (t.lane i).latch = false ∧ (t.lane i).window = [] ∧ (t.lane i).degraded = false ∧
      (t.lane i).rejects = [] ∧ (t.lane i).pacing = .stop ∧ (t.lane i).counters = .zero ∧
      (t.lane i).journal = { entries := [], nextSeq := 1, readMark := 0, halfArmed := true, wrapArmed := true })

/-- RST low: the part is held, every pacing output is STOP and nothing else changes; until its release every other command but a
power-on reset is taken without effect, a line change moving the raw line alone (the model's choice, log 8). -/
def Obligations.HeldInReset : Prop :=
  (∀ s : State, exec .rstAssert s =
    .next { s with rstHeld := true, lanes := s.lanes.map (fun l => { l with pacing := .stop }) }) ∧
  (∀ (s : State) (c : Instr), s.rstHeld = true → c ≠ .powerOnReset → c ≠ .rstAssert →
    (∀ i x h, c ≠ .beamLineChange i x h) → (∀ i h, c ≠ .takeoffLineChange i h) → (∀ i h, c ≠ .rejectLineChange i h) →
    exec c s = .next s) ∧
  (∀ (s : State) (i : LaneIdx) (h : Bool), s.rstHeld = true →
    exec (.beamLineChange i .a h) s = .next (s.modLane i (fun l => { l with beamA := { l.beamA with line := h } })) ∧
    exec (.beamLineChange i .b h) s = .next (s.modLane i (fun l => { l with beamB := { l.beamB with line := h } })) ∧
    exec (.takeoffLineChange i h) s = .next (s.modLane i (fun l => { l with takeoff := { l.takeoff with line := h } })) ∧
    exec (.rejectLineChange i h) s = .next (s.modLane i (fun l => { l with reject := { l.reject with line := h } })))

/-- Every step keeps every pacing output at the value R49 gives, STOP while RST is held (the model's reading of R183, log 8). -/
def Obligations.StepKeepsPacing : Prop :=
  ∀ s t : State, s.pacingLaw → step s = .next t → t.pacingLaw

/-- Every step keeps the transmitter from idling while a reply or a notice waits; the request buffer, the notice queue with its latch, the journals,
the reject lists, the Sighting List and the claim queue of each station to their capacities; and the record slots rising and among the 32. -/
def Obligations.StepKeepsQueues : Prop :=
  (∀ s t : State, s.transmitterLaw → step s = .next t → t.transmitterLaw) ∧
  (∀ s t : State, s.hostLaw → step s = .next t → t.hostLaw) ∧
  (∀ s t : State, s.laneLaw → s.sightingLaw → step s = .next t → t.laneLaw ∧ t.sightingLaw) ∧
  (∀ s t : State, s.storeLaw → step s = .next t → t.storeLaw) ∧
  (∀ s t : State, s.stationLaw → step s = .next t → t.stationLaw)

/-- Every step keeps each record's cash paid, credit issued, outstanding cash and unresolved amount together within its amount; and, while the
queues and dispenses of the stations and the final order are those of the records' states (R123, R125, R147), keeps them so and keeps every record's
money balanced (R126): the four together are the amount of every settled record, neither more nor less. -/
def Obligations.StepNeverMakesMoney : Prop :=
  (∀ s t : State, s.moneyLaw → step s = .next t → t.moneyLaw) ∧
  (∀ s t : State, s.storeLaw → s.claimLaw → s.balanceLaw → step s = .next t → t.claimLaw ∧ t.balanceLaw)

/-- The machine right after reset meets every law. -/
def Obligations.ResetMeetsLaws : Prop :=
  State.reset.pacingLaw ∧ State.reset.transmitterLaw ∧ State.reset.hostLaw ∧ State.reset.moneyLaw ∧ State.reset.laneLaw ∧
  State.reset.sightingLaw ∧ State.reset.storeLaw ∧ State.reset.stationLaw ∧
  State.reset.claimLaw ∧ State.reset.balanceLaw

/-! ## Frames of events -/

/-- What an event on a lane leaves unchanged: time, settings and both stations, always; the lane's configuration; the other lanes, when the event
lets no parked drop move; the store, when the lane is not draining; tables and sightings, when the lane counts no item and is not draining. -/
def Obligations.LaneEventFrame : Prop :=
  ∀ (c : Instr) (s u : State) (i : LaneIdx), eventLane c = some i → s.rstHeld = false → exec c s = .next u →
    s.keepsSettings u ∧ u.stationA = s.stationA ∧ u.stationB = s.stationB ∧
    (u.lane i).inService = (s.lane i).inService ∧ (u.lane i).cfg = (s.lane i).cfg ∧
    (((s.lane i).quietPoint = none ∨ s.parkOrder = []) → ∀ j, j ≠ i → u.lane j = (s.lane j).repace) ∧
    ((s.lane i).quietPoint = none → u.store = s.store ∧ u.finalOrder = s.finalOrder ∧ u.parkOrder = s.parkOrder) ∧
    ((s.lane i).quietPoint = none → (s.lane i).counting = false → u.tables = s.tables ∧ u.sightings = s.sightings)

/-- What an event of a station leaves unchanged while no drop is parked: time, settings, lanes, tables and sightings; the other station, but for
records leaving its queue; which slots are taken, and the base of every record; every record that is neither dispensed, queued nor claimed, by CLAIM
or by a valid CLAIM frame in a discard row (log 20). -/
def Obligations.StationEventFrame : Prop :=
  ∀ (c : Instr) (s u : State) (x : StationId), eventStation c = some x → s.rstHeld = false → s.storeLaw → s.parkOrder = [] →
    exec c s = .next u →
    s.keepsSettings u ∧ u.lanes = s.lanes.map Lane.repace ∧ u.tables = s.tables ∧ u.sightings = s.sightings ∧ u.parkOrder = [] ∧
    (∀ y, y ≠ x → u.station y = { s.station y with queue := (u.station y).queue } ∧
      List.Sublist (u.station y).queue (s.station y).queue) ∧
    (u.station x).claimPeriod = (s.station x).claimPeriod ∧ (u.station x).takePeriod = (s.station x).takePeriod ∧
    u.store.map Prod.fst = s.store.map Prod.fst ∧
    (∀ k r, s.recordAt k = some r → ∃ r', u.recordAt k = some r' ∧ r.sameBase r' ∧
      ((∀ d, (s.station x).state.dispense = some d → d.slot ≠ k) → k ∉ (s.station x).queue →
        (∀ n code, (c = .claim x n code ∨
           ∃ f check, c = .stationFrameDiscard x f check ∧ stationFrameOf f check = some (.claim n code)) → r.drop.number ≠ n) →
        r' = r))

/-! ## Frames and requests on the wire -/

/-- Every well-formed command that is no event of the part has a frame, no other well-formed command has one, and the frame of a well-formed request
is read back as that request. -/
def Obligations.RequestFramesReadBack : Prop :=
  (∀ c : Instr, WellFormed c = true →
     (encodeRequest c = none ↔ eventLane c ≠ none ∨ eventStation c ≠ none ∨ c = .powerOnReset ∨ c = .rstAssert ∨
       c = .hostByteTimeout ∨ c = .transmitDone ∨ c = .yardClockStep ∨ c = .sightingAged ∨ (∃ k, c = .claimDeadlineExpiry k) ∨
       (∃ b ok, c = .hostByteReceived b ok) ∨ ∃ f check, c = .hostFrame f check)) ∧
  (∀ (c : Instr) (f : Frame), WellFormed c = true → encodeRequest c = some f → parseRequest f = some c)

/-- The bytes of a frame, received one after another by a hunting receiver, make the frame arrive whole (R175). The check is sent and read low byte
first (the model's choice, log 31). -/
def Obligations.BytesMakeFrameArrive : Prop :=
  ∀ (s : State) (f : Frame), f.wf = true → s.host.rx = .hunting →
    f.bytes.foldl (fun s b => s.hostByte b true) s = s.frameCompletes f f.check

/-- The link receivers (R19, R145, R175). A host frame with a good check joins the buffer, or is discarded as OVERRUN when 4 wait; one with a wrong
check is discarded as CHECK; a byte is taken as hunting and assembling say. Discards: a gap of 20 ms, and a frame that is not valid on a head or
station link. The receiver hunts afterwards whatever it held (the model's choice, log 5). A frame in a discard row that is valid after all is
taken by its kind (the model's reading, log 20). -/
def Obligations.LinkReceivers : Prop :=
  ((∀ (s : State) (f : Frame) (check : Check), s.rstHeld = false → f.wf = true →
      (check = f.check → s.host.reqBuf.length < 4 →
        exec (.hostFrame f check) s =
          .next (finish { s with host := { s.host with rx := .hunting, reqBuf := s.host.reqBuf ++ [f] } })) ∧
      (check = f.check → 4 ≤ s.host.reqBuf.length →
        exec (.hostFrame f check) s =
          .next (finish (({ s with host := { s.host with rx := .hunting } }.countYard .framesRejected).post
            (.linkFault .overrun f.kind f.tag)))) ∧
      (check ≠ f.check →
        exec (.hostFrame f check) s =
          .next (finish (({ s with host := { s.host with rx := .hunting } }.countYard .framesRejected).post (.linkFault .check 0 0))))) ∧
   (∀ (s : State) (b : Byte), s.rstHeld = false →
      (s.host.rx = .hunting → b = 0xA7 → exec (.hostByteReceived b true) s =
        .next (finish { s with host := { s.host with rx := .assembling [] s.now } })) ∧
      (s.host.rx = .hunting → b ≠ 0xA7 → exec (.hostByteReceived b true) s = .next (finish s)) ∧
      (s.host.rx = .hunting → exec (.hostByteReceived b false) s = .next (finish s)) ∧
      (∀ t, s.host.rx = .assembling [] t → b.toNat ≤ 240 → exec (.hostByteReceived b true) s =
        .next (finish { s with host := { s.host with rx := .assembling [b] s.now } })) ∧
      (∀ t, s.host.rx = .assembling [] t → 240 < b.toNat → exec (.hostByteReceived b true) s =
        .next (finish (({ s with host := { s.host with rx := .hunting } }.countYard .framesRejected).post (.linkFault .length 0 0)))) ∧
      (∀ bs t, s.host.rx = .assembling bs t → exec (.hostByteReceived b false) s =
        .next (finish (({ s with host := { s.host with rx := .hunting } }.countYard .framesRejected).post (.linkFault .check 0 0)))))) ∧
  (((∀ (s : State) (bs : List Byte) (t : Nat), s.rstHeld = false → s.host.rx = .assembling bs t → t + 20 ≤ s.now →
      exec .hostByteTimeout s =
        .next (finish (({ s with host := { s.host with rx := .hunting } }.countYard .framesRejected).post (.linkFault .length 0 0)))) ∧
    (∀ (s : State) (i : LaneIdx) (bs : List Byte) (t : Nat), s.rstHeld = false → (s.lane i).headRx = .assembling bs t →
      t + 20 ≤ s.now → exec (.headByteTimeout i) s = .next (finish (s.modLane i (fun l => { l with headRx := .hunting })))) ∧
    (∀ (s : State) (x : StationId) (bs : List Byte) (t : Nat), s.rstHeld = false → (s.station x).rx = .assembling bs t →
      t + 20 ≤ s.now → exec (.stationByteTimeout x) s = .next (finish (s.modStation x (fun u => { u with rx := .hunting }))))) ∧
   ((∀ (s : State) (i : LaneIdx) (f : Frame) (check : Check), s.rstHeld = false → headFrameOf f check = none →
      exec (.headFrameDiscard i f check) s = .next (finish (s.modLane i (fun l => { l with headRx := .hunting })))) ∧
    (∀ (s : State) (x : StationId) (f : Frame) (check : Check), s.rstHeld = false → stationFrameOf f check = none →
      exec (.stationFrameDiscard x f check) s = .next (finish (s.modStation x (fun u => { u with rx := .hunting })))) ∧
    (∀ (f : Frame) (check : Check), check ≠ f.check → headFrameOf f check = none ∧ stationFrameOf f check = none))) ∧
  ((∀ (s : State) (i : LaneIdx) (f : Frame) (check : Check),
     (∀ o t n, headFrameOf f check = some (.code o t n) → exec (.headFrameDiscard i f check) s = exec (.codeFrame i o t n) s) ∧
     (∀ form v, headFrameOf f check = some (.measure form v) →
       exec (.headFrameDiscard i f check) s = exec (.measureFrame i form v) s) ∧
     (∀ c, headFrameOf f check = some (.status c) → exec (.headFrameDiscard i f check) s = exec (.statusFrame i c) s)) ∧
   (∀ (s : State) (x : StationId) (f : Frame) (check : Check),
     (stationFrameOf f check = some .ready → exec (.stationFrameDiscard x f check) s = exec (.ready x) s) ∧
     (∀ n c, stationFrameOf f check = some (.claim n c) → exec (.stationFrameDiscard x f check) s = exec (.claim x n c) s) ∧
     (∀ p, stationFrameOf f check = some (.picked p) →
       exec (.stationFrameDiscard x f check) s = exec (.picked x p.c1 p.c2 p.c3 p.c4) s) ∧
     (stationFrameOf f check = some .presented → exec (.stationFrameDiscard x f check) s = exec (.presented x) s) ∧
     (stationFrameOf f check = some .taken → exec (.stationFrameDiscard x f check) s = exec (.taken x) s) ∧
     (stationFrameOf f check = some .retracted → exec (.stationFrameDiscard x f check) s = exec (.retracted x) s) ∧
     (∀ c, stationFrameOf f check = some (.fault c) → exec (.stationFrameDiscard x f check) s = exec (.dispenserFault x c) s)))

/-- The transmitter (R177): freed, it begins the waiting reply, else the oldest notice, the latch clearing once fewer than 63 are left, else it idles.
Posting (R178): a disabled group; fewer than 63 held; 63 held with the latch clear; the latch set. -/
def Obligations.TransmitterAndNotices : Prop :=
  (∀ s : State, s.rstHeld = false →
     (∀ r, s.host.reply = some r → exec .transmitDone s =
       .next { s.repace with host := { s.host with tx := some (.reply r), reply := none } }) ∧
     (∀ n rest, s.host.reply = none → s.host.notices = n :: rest → exec .transmitDone s =
       .next { s.repace with host := { s.host with
         tx := some (.notice n), notices := rest, latch := s.host.latch && decide (63 ≤ rest.length) } }) ∧
     (s.host.reply = none → s.host.notices = [] → exec .transmitDone s =
       .next { s.repace with host := { s.host with tx := none } })) ∧
  (∀ (s : State) (b : NoticeBody),
     (s.host.filter.getLsbD b.group = false → s.post b = s) ∧
     (s.host.filter.getLsbD b.group = true → s.host.latch = false → s.host.notices.length < 63 →
       s.post b = { s with host := { s.host with
         nextNotice := (s.host.nextNotice + 1) % 65536, notices := s.host.notices ++ [⟨s.host.nextNotice, s.stamp, b⟩] } }) ∧
     (s.host.filter.getLsbD b.group = true → s.host.latch = false → s.host.notices.length = 63 →
       s.post b = { s.countYard .noticesDiscarded with host := { s.host with
         nextNotice := ((s.host.nextNotice + 1) % 65536 + 1) % 65536, latch := true,
         notices := s.host.notices ++
           [⟨(s.host.nextNotice + 1) % 65536, s.stamp, .noticesLost s.host.nextNotice s.stamp b.kind⟩] } }) ∧
     (s.host.filter.getLsbD b.group = true → s.host.latch = true →
       s.post b = { s.countYard .noticesDiscarded with host := { s.host with nextNotice := (s.host.nextNotice + 1) % 65536 } }))

/-- The frames the part sends. A notice (Tables 10-1, 10-4): kind 0xFE, tag 0, the header at its offsets and the fields of its kind. A reply: kind
0xFD, the request's tag, kind and status, then its results. A station frame (Table 10-9) with tag 0 (R186). The drop summary, the record summary and
the ITEM body at the offsets of Tables 10-5, 10-6 and 10-7; the other entries; what LANE.JOURNAL, DROP.GET and RECORD.GET send (R185); and the
results of every other reply (R184). Sizes, orders and numbers that no table gives are the model's choice (logs 18 and 29). -/
def Obligations.OutboundFrames : Prop :=
  ((∀ n : Notice, n.frame.kind = 0xFE ∧ n.frame.tag = 0 ∧ n.body.kind = (noticeRow n.body).1 ∧ n.body.group = (noticeRow n.body).2.1 ∧
      laidOut n.frame.body [(0, sized 2 n.number), (2, sized 1 (noticeRow n.body).1), (3, sized 1 (noticeRow n.body).2.1),
        (4, sized 4 n.stamp.clock), (8, sized 2 n.stamp.ms), (10, (noticeRow n.body).2.2)]) ∧
   (∀ r : Reply, r.frame.kind = 0xFD ∧ r.frame.tag = r.tag ∧ r.frame.body =
      [r.kind] ++ listed [.ok, .state, .full, .range, .absent, .duplicate, .inUse, .unknown] r.status ++ r.result.bytes r.kind) ∧
   (∀ (number extra cash : Nat) (a : Answer), (StationTx.answer number a extra cash).frame = ⟨0x20, 0, sized 2 number ++
      listed [.queued, .unknownDrop, .wrongStation, .notReady, .inProgress, .closedOut, .stationOut, .badCheck, .locked, .queueFull] a ++
      sized 1 extra ++ sized 6 cash⟩) ∧
   (∀ (number takePeriod : Nat) (notes : Four Nat), (StationTx.dispense number notes takePeriod).frame =
      ⟨0x21, 0, sized 2 number ++ sentNotes notes ++ sized 1 takePeriod⟩)) ∧
  ((∀ (kind : Byte) (result : Result) (fields : List Byte), replyFields kind result = some fields → result.bytes kind = fields) ∧
   (∀ (kind : Byte) (v : DropView) (r : RecordView), (Result.dropSummary v none).bytes kind = v.bytes ∧
      (Result.dropSummary v (some r)).bytes kind = v.bytes ++ r.bytes) ∧
   (∀ (kind : Byte) (number total first : Nat) (lines : List Line), (Result.dropLines number total first lines).bytes kind =
      sized 2 number ++ sized 1 total ++ sized 1 first ++ counted (lines.map sentLine)) ∧
   (∀ (kind : Byte) (v : DropView) (r : RecordView) (records finals parked : Nat),
      let counts := sized 1 records ++ sized 1 finals ++ sized 1 parked
      (Result.record none records finals parked).bytes kind = counts ∧
      (Result.record (some (r, v)) records finals parked).bytes kind = r.bytes ++ v.bytes.take 18 ++ counts) ∧
   (∀ (kind : Byte) (es : List JournalEntry) (oldest newest mark unread : Nat),
      (Result.journal es oldest newest mark unread).bytes kind = sized 1 es.length ++
        sized 6 (match es.head? with | some e => e.seq | none => 0) ++ sized 6 oldest ++ sized 6 newest ++ sized 6 mark ++
        sized 2 unread ++ (es.map JournalEntry.bytes).flatten)) ∧
  ((∀ v : DropView, laidOut v.bytes (dropRows v) ∧ v.bytes.length = 161) ∧
   (∀ v : RecordView, laidOut v.bytes (recordRows v) ∧ v.bytes.length = 53) ∧
   (∀ (seq : Nat) (stamp : Stamp) (body : JournalBody) (kind : Nat) (bytes : List Byte), entryRow body = some (kind, bytes) →
      JournalEntry.bytes ⟨seq, stamp, body⟩ = sized 1 kind ++ sentStamp stamp ++ bytes) ∧
   (∀ (seq : Nat) (stamp : Stamp) (drop : Nat) (long : Bool) (capture : Capture) (cls : Option Nat) (outcome : ItemOutcome) (units : Nat)
      (value : Option Nat) (first : Option LaneIdx) (o a c : Nat),
      ∃ bytes, laidOut bytes (itemRows drop long capture cls outcome units value first o a c) ∧ bytes.length = 28 ∧
        JournalEntry.bytes ⟨seq, stamp, .item drop long capture cls outcome units value first o a c⟩ =
          sized 1 0 ++ sentStamp stamp ++ bytes) ∧
   (∀ (seq : Nat) (stamp : Stamp) (long : Bool) (capture : Capture) (o a c : Nat),
      ∃ item, laidOut item (itemRows 0 long capture none (.line .accepted) 0 none none o a c) ∧
        JournalEntry.bytes ⟨seq, stamp, .stray long capture o a c⟩ =
          sized 1 1 ++ sentStamp stamp ++ (item.drop 2).take 9 ++ item.drop 16))

/-- A request that arrives while a reply is out, or behind others that wait, joins the buffer as its frame and has no other effect; when 4 wait
it is discarded as OVERRUN (how a request command waits is the model's choice, log 4). The request at the head of the buffer, when no reply is out,
is taken (R176): it leaves the buffer with the rest waiting as before, PART.RESTART too (R182), and otherwise does all that it does on an empty
buffer. PART.PING answers how many wait after it was taken (R181). -/
def Obligations.RequestsWaitTheirTurn : Prop :=
  (∀ (s : State) (c : Instr) (f : Frame), encodeRequest c = some f → s.rstHeld = false →
    (s.replyOut = true ∨ ∃ g rest, s.host.reqBuf = g :: rest ∧ parseRequest g ≠ some c) →
    (s.host.reqBuf.length < 4 → exec c s =
      .next (finish { s with host := { s.host with reqBuf := s.host.reqBuf ++ [f] } })) ∧
    (4 ≤ s.host.reqBuf.length → exec c s =
      .next (finish ((s.countYard .framesRejected).post (.linkFault .overrun f.kind f.tag))))) ∧
  (∀ (s : State) (c : Instr) (g : Frame) (rest : List Frame), s.rstHeld = false → s.replyOut = false → s.host.reqBuf = g :: rest →
    parseRequest g = some c →
    ((∀ tag, c ≠ .partPing tag) → ∃ t, exec c (s.buffering []) = .next t ∧ t.host.reqBuf = [] ∧
      exec c s = .next (t.buffering rest)) ∧
    (∀ tag, c = .partPing tag → exec c s = .next (finish ((s.buffering rest).replied 0x01 tag .ok (.ping
       { lanes := [(s.lane 0).state, (s.lane 1).state, (s.lane 2).state, (s.lane 3).state, (s.lane 4).state, (s.lane 5).state],
         stations := [(s.stationA.state.tag, s.stationA.link.isUp), (s.stationB.state.tag, s.stationB.link.isUp)],
         clock := s.host.clock, notices := s.host.notices.length, latch := s.host.latch, waiting := rest.length })))))

/-! ## PART requests -/

/-- The yard clock steps by 1 each second, wrapping, and PART.CLOCK sets it and answers its former value (R180); PART.PING (R181),
PART.FILTER (R179), PART.COUNTERS (R173) and a request of no known kind (R176). -/
def Obligations.PartRequests : Prop :=
  ((∀ s : State, s.rstHeld = false → s.host.clockBase + 1000 ≤ s.now → s.host.clock ≤ 4294967295 →
     exec .yardClockStep s = .next (finish { s with host := { s.host with
       clock := (s.host.clock + 1) % 4294967296, clockBase := s.host.clockBase + 1000 } })) ∧
   (∀ (s : State) (tag : Byte) (n : Nat), s.ready → n ≤ 4294967295 →
     exec (.partClock tag n) s =
       .next (finish ({ s with host := { s.host with clock := n, clockBase := s.now } }.replied 0x02 tag .ok (.clock s.host.clock))))) ∧
  (∀ (s : State) (tag : Byte), s.ready →
     exec (.partPing tag) s = .next (finish (s.replied 0x01 tag .ok (.ping
       { lanes := [(s.lane 0).state, (s.lane 1).state, (s.lane 2).state, (s.lane 3).state, (s.lane 4).state, (s.lane 5).state],
         stations := [(s.stationA.state.tag, s.stationA.link.isUp), (s.stationB.state.tag, s.stationB.link.isUp)],
         clock := s.host.clock, notices := s.host.notices.length, latch := s.host.latch, waiting := 0 }))) ∧
     (∀ groups : Byte, exec (.partFilter tag groups) s =
       .next (finish ({ s with host := { s.host with filter := groups ||| 0x10 } }.replied 0x03 tag .ok (.filter (groups ||| 0x10))))) ∧
     exec (.partCounters tag) s = .next (finish (s.replied 0x05 tag .ok (.yard s.yard))) ∧
     (∀ kind : Byte, requestKinds.contains kind = false →
       exec (.unknownRequest tag kind) s = .next (finish (s.replied kind tag .unknown .none))))

/-- PART.RESTART (R182): refused with STATE while a lane holds a drop, a record is not final or a dispense is in progress; taken, it
empties what it empties and keeps what it keeps. -/
def Obligations.RestartRule : Prop :=
  ∀ (s : State) (tag : Byte), s.ready →
    (((∃ i, (s.lane i).state ≠ .off ∧ (s.lane i).state ≠ .idle) ∨ (∃ p ∈ s.store, p.2.final = false) ∨
      (∃ x, (s.station x).state.dispense ≠ none)) →
      exec (.partRestart tag) s = .next (finish (s.replied 0x04 tag .state .none))) ∧
    ((∀ i, (s.lane i).state = .off ∨ (s.lane i).state = .idle) → (∀ p ∈ s.store, p.2.final = true) →
      (∀ x, (s.station x).state.dispense = none) → s.host.filter.getLsbD 0 = true → ∃ t, exec (.partRestart tag) s = .next t ∧
      t.store = [] ∧ t.finalOrder = [] ∧ t.parkOrder = [] ∧ t.sightings = [] ∧ t.yard = .zero ∧
      t.host.notices = [⟨1, s.stamp, .partUp .restart⟩] ∧ t.host.latch = false ∧ t.host.nextNotice = 2 ∧
      t.tables = s.tables ∧ t.holdPeriod = s.holdPeriod ∧ t.host.filter = s.host.filter ∧ t.host.clock = s.host.clock ∧
      t.lastDrop = s.lastDrop ∧ t.checkPos = s.checkPos ∧ t.now = s.now ∧ t.pending = s.pending ∧ t.choices = s.choices ∧
      t.host.rx = s.host.rx ∧ t.host.reqBuf = [] ∧ t.host.clockBase = s.host.clockBase ∧
      (t.host.tx = some (.reply ⟨0x04, tag, .ok, .none⟩) ∨ (t.host.reply = some ⟨0x04, tag, .ok, .none⟩ ∧ t.host.tx = s.host.tx)) ∧
      (∀ x, t.station x = { s.station x with state := .closed, queue := [], lastFault := 0 }) ∧
      (∀ i, t.lane i = { s.lane i with
        inService := false, gate := .reset, stuckA := none, stuckB := none, lastABlock := none, head := .off, lastFault := 0,
        measure := none, early := none, grace := none, waiting := none, occupancy := 0, peak := 0, latch := false, window := [],
        degraded := false, rejects := [], pacing := .stop, journal := .empty, counters := .zero, drop := none }))

/-! ## Lines and debouncers -/

/-- Debounced lines: a level other than the settled one starts the hold and a return to it cancels the hold (R1, R43, R55); the settled fall
of the take-off line and the release of the reject button have no other effect; a settled beam edge in RESET only changes the settled level,
and in FAULT it also drives the fault-clear timer (R15, R17). -/
def Obligations.DebouncedLines : Prop :=
  (∀ (s : State) (i : LaneIdx) (h : Bool), s.rstHeld = false →
     exec (.beamLineChange i .a h) s = .next (finish (s.modLane i (fun l => { l with beamA := { l.beamA with
       line := h, hold := if h = l.beamA.settled then none else if h = l.beamA.line then l.beamA.hold else some s.now } }))) ∧
     exec (.beamLineChange i .b h) s = .next (finish (s.modLane i (fun l => { l with beamB := { l.beamB with
       line := h, hold := if h = l.beamB.settled then none else if h = l.beamB.line then l.beamB.hold else some s.now } }))) ∧
     exec (.takeoffLineChange i h) s = .next (finish (s.modLane i (fun l => { l with takeoff := { l.takeoff with
       line := h, hold := if h = l.takeoff.settled then none else if h = l.takeoff.line then l.takeoff.hold else some s.now } }))) ∧
     exec (.rejectLineChange i h) s = .next (finish (s.modLane i (fun l => { l with reject := { l.reject with
       line := h, hold := if h = l.reject.settled then none else if h = l.reject.line then l.reject.hold else some s.now } })))) ∧
  (∀ (s : State) (i : LaneIdx) (t : Nat), s.rstHeld = false →
     ((s.lane i).takeoff.settled = true → (s.lane i).takeoff.hold = some t → t + 3 ≤ s.now →
       exec (.takeoffSettledFall i) s =
         .next (finish (s.modLane i (fun l => { l with takeoff := { l.takeoff with settled := false, hold := none } })))) ∧
     ((s.lane i).reject.settled = true → (s.lane i).reject.hold = some t → t + 20 ≤ s.now →
       exec (.rejectSettledRelease i) s =
         .next (finish (s.modLane i (fun l => { l with reject := { l.reject with settled := false, hold := none } }))))) ∧
  (∀ (s : State) (i : LaneIdx) (t : Nat), s.rstHeld = false →
     ((s.lane i).beamA.hold = some t → t + 3 ≤ s.now →
       ((s.lane i).gate = .reset → exec (.beamEdge i .a) s =
         .next (finish (s.modLane i (fun l => { l with beamA := { l.beamA with settled := !l.beamA.settled, hold := none } })))) ∧
       (∀ beams timer, (s.lane i).gate = .fault beams timer → exec (.beamEdge i .a) s =
         .next (finish (s.modLane i (fun l => { l with
           beamA := { l.beamA with settled := !l.beamA.settled, hold := none },
           gate := .fault beams (if (!l.beamA.settled) || l.beamB.settled then none else some s.now) }))))) ∧
     ((s.lane i).beamB.hold = some t → t + 3 ≤ s.now →
       ((s.lane i).gate = .reset → exec (.beamEdge i .b) s =
         .next (finish (s.modLane i (fun l => { l with beamB := { l.beamB with settled := !l.beamB.settled, hold := none } })))) ∧
       (∀ beams timer, (s.lane i).gate = .fault beams timer → exec (.beamEdge i .b) s =
         .next (finish (s.modLane i (fun l => { l with
           beamB := { l.beamB with settled := !l.beamB.settled, hold := none },
           gate := .fault beams (if l.beamA.settled || (!l.beamB.settled) then none else some s.now) }))))))

/-! ## The gate -/

/-- A settled edge in a counting state takes the gate as Table 1-2 gives, and raises the forward, reverse, bounce and glitch counters in the cells
the table marks, and no other cell. Cell by cell, but for the four of `ForwardItemAtGate` and `HandoverRule`: A blocking notes its time, ends a late
grace (R16, R27) and opens a forward item in IDLE and in EXIT (R5, R8), or moves a reversing one; a bounce puts the one code of an item not
head-lost into the early hold, and discards any other code state (R9, R28; a hold of 0 ms counts a stray read, R26); a retreat keeps the held items
(R10); a glitch changes the counter alone (R4); a reverse transit is counted, journalled, tallied in an OPEN or DRAINING drop, and lowers the
occupancy, the latch being tested (R11, R45, R46). The latch test at occupancy 0 is the model's reading (log 26). The drain is tested after every
edge (R106). -/
def Obligations.EdgeFollowsTable : Prop :=
  (∀ (s : State) (i : LaneIdx) (x : Beam) (t : Nat), s.rstHeld = false → (s.lane i).gate.counting = true →
     ((s.lane i).beam x).hold = some t → t + 3 ≤ s.now →
     let g := (s.lane i).gate.number
     let up := !((s.lane i).beam x).settled
     ∃ u, exec (.beamEdge i x) s = .next u ∧ (u.lane i).gate.number = tableAfter g x up ∧
       (u.lane i).beam x = { (s.lane i).beam x with settled := up, hold := none } ∧
       (u.lane i).stuck x = (if up then some s.now else none) ∧
       (u.lane i).counters.forward = (s.lane i).counters.forward.afterEdge forwardCells g x up ∧
       (u.lane i).counters.reverse = (s.lane i).counters.reverse.afterEdge reverseCells g x up ∧
       (u.lane i).counters.bounces = (s.lane i).counters.bounces.afterEdge bounceCells g x up ∧
       (u.lane i).counters.glitches = (s.lane i).counters.glitches.afterEdge glitchCells g x up ∧
       (∀ y, y ≠ x → (u.lane i).beam y = (s.lane i).beam y ∧ (u.lane i).stuck y = (s.lane i).stuck y) ∧
       (u.lane i).takeoff = (s.lane i).takeoff ∧ (u.lane i).reject = (s.lane i).reject ∧ (u.lane i).head = (s.lane i).head ∧
       (u.lane i).lastFault = (s.lane i).lastFault ∧ (u.lane i).measure = (s.lane i).measure ∧ (u.lane i).headRx = (s.lane i).headRx) ∧
  (∀ (s : State) (i : LaneIdx) (t : Nat), s.rstHeld = false → (s.lane i).beamA.settled = false → (s.lane i).beamA.hold = some t →
     t + 3 ≤ s.now →
     let taken (u : State) : Prop := exec (.beamEdge i .a) s = .next (finish (u.quietTest i))
     let noted := (s.modLane i (fun l => { l with
       beamA := { l.beamA with settled := true, hold := none }, stuckA := some s.now, lastABlock := some s.now })).endGrace i
     let opened (l : Lane) : FwdItem :=
       { opened := s.now, longTimer := some s.now, long := false, sample := none, aCleared := none,
         code := match l.early with | some h => .one h.code | none => .none,
         headLost := decide (l.head = .lost) }
     ((s.lane i).gate = .idle → taken (noted.modLane i (fun l => { l with gate := .enter (opened l), early := none }))) ∧
     (∀ it, (s.lane i).gate = .exit it →
       taken (noted.modLane i (fun l => { l with gate := .exitEnter it (opened l), early := none }))) ∧
     (∀ seen, (s.lane i).gate = .back seen → taken (noted.modLane i (fun l => { l with gate := .backSpan seen }))) ∧
     (((∃ it, (s.lane i).gate = .enter it) ∨ (∃ it, (s.lane i).gate = .span it) ∨ (∃ it e, (s.lane i).gate = .exitEnter it e) ∨
         (∃ seen, (s.lane i).gate = .backSpan seen) ∨ ∃ seen, (s.lane i).gate = .backExit seen) →
       taken (noted.modLane i (fun l => { l with counters := l.counters.raise .glitches })))) ∧
  (∀ (s : State) (i : LaneIdx) (t : Nat), s.rstHeld = false → (s.lane i).beamA.settled = true → (s.lane i).beamA.hold = some t →
     t + 3 ≤ s.now →
     let taken (u : State) : Prop := exec (.beamEdge i .a) s = .next (finish (u.quietTest i))
     let cleared := s.modLane i (fun l => { l with beamA := { l.beamA with settled := false, hold := none }, stuckA := none })
     let bounced (g : Gate) : State := cleared.modLane i (fun l => { l with gate := g, counters := l.counters.raise .bounces })
     let withdrawn (it : FwdItem) (g : Gate) : Prop :=
       (∀ c, it.code = .one c → it.headLost = false → (s.lane i).cfg.earlyHold = 0 →
         taken ((bounced g).modLane i (fun l => { l with counters := l.counters.raise .strayReads }))) ∧
       (∀ c, it.code = .one c → it.headLost = false → 0 < (s.lane i).cfg.earlyHold → (s.lane i).early = none →
         taken ((bounced g).modLane i (fun l => { l with early := some ⟨c, s.now⟩ }))) ∧
       (((∀ c, it.code ≠ .one c) ∨ it.headLost = true) → taken (bounced g))
     (∀ it, (s.lane i).gate = .enter it → withdrawn it .idle) ∧
     (∀ it e, (s.lane i).gate = .exitEnter it e → withdrawn e (.exit it)) ∧
     (∀ seen, (s.lane i).gate = .backSpan seen → taken (cleared.modLane i (fun l => { l with gate := .back seen }))) ∧
     (∀ seen, (s.lane i).gate = .backExit seen →
       let journalled := (cleared.modLane i (fun l => { l with gate := .idle, counters := l.counters.raise .reverse })).journalWrite i
         (.reverse (s.now - seen))
       taken (journalled.modLane i (fun l => { l with
         drop := if (s.lane i).counting then l.drop.map (fun d => { d with record := { d.record with
           reverse := if d.record.reverse < 65535 then d.record.reverse + 1 else d.record.reverse } }) else l.drop,
         occupancy := l.occupancy - 1, latch := l.latch && decide (releaseAt l.cfg.capacity < l.occupancy - 1) }))) ∧
     (((s.lane i).gate = .idle ∨ (∃ it, (s.lane i).gate = .exit it) ∨ ∃ seen, (s.lane i).gate = .back seen) →
       taken (cleared.modLane i (fun l => { l with counters := l.counters.raise .glitches })))) ∧
  (∀ (s : State) (i : LaneIdx) (t : Nat), s.rstHeld = false → (s.lane i).beamB.settled = false → (s.lane i).beamB.hold = some t →
     t + 3 ≤ s.now →
     let taken (u : State) : Prop := exec (.beamEdge i .b) s = .next (finish (u.quietTest i))
     let blocked := s.modLane i (fun l => { l with beamB := { l.beamB with settled := true, hold := none }, stuckB := some s.now })
     ((s.lane i).gate = .idle → taken (blocked.modLane i (fun l => { l with gate := .back s.now }))) ∧
     (∀ seen, (s.lane i).gate = .backExit seen → taken (blocked.modLane i (fun l => { l with gate := .backSpan seen }))) ∧
     (((∃ it, (s.lane i).gate = .span it) ∨ (∃ it, (s.lane i).gate = .exit it) ∨ (∃ it e, (s.lane i).gate = .exitEnter it e) ∨
         (∃ seen, (s.lane i).gate = .back seen) ∨ ∃ seen, (s.lane i).gate = .backSpan seen) →
       taken (blocked.modLane i (fun l => { l with counters := l.counters.raise .glitches })))) ∧
  (∀ (s : State) (i : LaneIdx) (t : Nat), s.rstHeld = false → (s.lane i).beamB.settled = true → (s.lane i).beamB.hold = some t →
     t + 3 ≤ s.now →
     let taken (u : State) : Prop := exec (.beamEdge i .b) s = .next (finish (u.quietTest i))
     let cleared := s.modLane i (fun l => { l with beamB := { l.beamB with settled := false, hold := none }, stuckB := none })
     (∀ it, (s.lane i).gate = .span it → taken (cleared.modLane i (fun l => { l with gate := .enter it }))) ∧
     (∀ seen, (s.lane i).gate = .back seen →
       taken (cleared.modLane i (fun l => { l with gate := .idle, counters := l.counters.raise .bounces }))) ∧
     (∀ seen, (s.lane i).gate = .backSpan seen → taken (cleared.modLane i (fun l => { l with gate := .backExit seen }))) ∧
     (((s.lane i).gate = .idle ∨ (∃ it, (s.lane i).gate = .enter it) ∨ ∃ seen, (s.lane i).gate = .backExit seen) →
       taken (cleared.modLane i (fun l => { l with counters := l.counters.raise .glitches }))))

/-- A forward item at the gate: A blocks in IDLE with no item waiting and its window opens with the code in the early hold (R5, R26); B blocks in
ENTER and it samples the latest measurement no older than the measure age (R6); A clears in SPAN and its late grace begins (R27); its long
timer reaches the long limit and its LONG flag is set (R12). -/
def Obligations.ForwardItemAtGate : Prop :=
  (∀ (s : State) (i : LaneIdx) (t : Nat), s.rstHeld = false → (s.lane i).gate = .idle → (s.lane i).waiting = none →
     (s.lane i).beamA.settled = false → (s.lane i).beamA.hold = some t → t + 3 ≤ s.now →
     exec (.beamEdge i .a) s = .next (finish (s.modLane i (fun l => { l with
       beamA := { l.beamA with settled := true, hold := none }, stuckA := some s.now, lastABlock := some s.now, grace := none,
       early := none,
       gate := .enter
         { opened := s.now, longTimer := some s.now, long := false, sample := none, aCleared := none,
           code := match l.early with | some h => .one h.code | none => .none,
           headLost := decide (l.head = .lost) } })))) ∧
  (∀ (s : State) (i : LaneIdx) (it : FwdItem) (t : Nat), s.rstHeld = false →
     ((s.lane i).gate = .enter it → (s.lane i).beamB.settled = false → (s.lane i).beamB.hold = some t → t + 3 ≤ s.now →
       exec (.beamEdge i .b) s = .next (finish (s.modLane i (fun l => { l with
         beamB := { l.beamB with settled := true, hold := none }, stuckB := some s.now,
         gate := .span { it with sample := match l.measure with
           | some m => if s.now - m.arrival ≤ l.cfg.measureAge then some m.value else none
           | none => none } })))) ∧
     ((s.lane i).gate = .span it → (s.lane i).beamA.settled = true → (s.lane i).beamA.hold = some t → t + 3 ≤ s.now →
       exec (.beamEdge i .a) s = .next (finish (s.modLane i (fun l => { l with
         beamA := { l.beamA with settled := false, hold := none }, stuckA := none,
         gate := .exit { it with longTimer := none, aCleared := some s.now },
         grace := if l.cfg.lateGrace = 0 then none else some s.now }))))) ∧
  (∀ (s : State) (i : LaneIdx) (it : FwdItem) (t : Nat), s.rstHeld = false → it.longTimer = some t → it.long = false →
     t + (s.lane i).cfg.longLimit ≤ s.now →
     ((s.lane i).gate = .enter it → exec (.longLimit i) s =
       .next (finish (s.modLane i (fun l => { l with gate := .enter { it with long := true } })))) ∧
     ((s.lane i).gate = .span it → exec (.longLimit i) s =
       .next (finish (s.modLane i (fun l => { l with gate := .span { it with long := true } })))) ∧
     (∀ x, (s.lane i).gate = .exitEnter x it → exec (.longLimit i) s =
       .next (finish (s.modLane i (fun l => { l with gate := .exitEnter x { it with long := true } })))))

/-- A stuck timer reaches the stuck limit (R13, R14): each held item is abandoned with its entry and its count (in EXIT_ENTER the older first, log
15, and a reversing item's LONG flag clear, log 27, the model's choices), the late grace of an item abandoned in EXIT ends, an OPEN or DRAINING drop
is flagged, FAULT names the beams whose timers have run, the fault is journalled and BEAM_FAULT says how many items were abandoned; occupancy stays.
The fault-clear timer runs for 2,000 ms (R15): the gate is IDLE, the clear is journalled, BEAM_CLEAR is posted, and the drain is tested (R106). -/
def Obligations.BeamFaultRule : Prop :=
  (∀ (s : State) (i : LaneIdx) (x : Beam) (t : Nat), s.rstHeld = false → (s.lane i).gate.counting = true →
     (s.lane i).stuck x = some t → t + (s.lane i).cfg.stuckLimit * 1000 ≤ s.now →
     let held := abandonedEntries (s.lane i).gate s.now
     let timer : Option Nat := if (s.lane i).beamA.settled || (s.lane i).beamB.settled then none else some s.now
     let drop : Option LaneDrop := if (s.lane i).counting
       then (s.lane i).drop.map (fun d => { d with record := { d.record with gateFault := true } }) else (s.lane i).drop
     ∃ u beams, exec (.stuckLimit i x) s = .next u ∧
       u = finish (((((s.abandoning i held).modLane i (fun l => { l with
           gate := .fault beams timer, grace := (match (s.lane i).gate with | .exit _ => none | _ => l.grace), stuckA := none,
           stuckB := none, drop := drop })).journalWrite i (.fault (.beamFault beams))).post (.beamFault i beams held.length))) ∧
       (u.lane i).gate = .fault beams timer ∧
       (beams = .both ↔ ∀ y, ∃ t', (s.lane i).stuck y = some t' ∧ t' + (s.lane i).cfg.stuckLimit * 1000 ≤ s.now) ∧
       (beams ≠ .both → beams = match x with | .a => .a | .b => .b) ∧
       (u.lane i).stuckA = none ∧ (u.lane i).stuckB = none ∧ (u.lane i).occupancy = (s.lane i).occupancy ∧
       (u.lane i).waiting = (s.lane i).waiting ∧
       (u.lane i).counters.abandoned =
         (match (s.lane i).gate with
          | .idle => (s.lane i).counters.abandoned
          | .exitEnter _ _ => (s.lane i).counters.abandoned.raise.raise
          | _ => (s.lane i).counters.abandoned.raise) ∧
       (u.lane i).drop = drop ∧
       u.lane i = { s.lane i with
         gate := (u.lane i).gate, grace := (match (s.lane i).gate with | .exit _ => none | _ => (s.lane i).grace),
         stuckA := none, stuckB := none, drop := (u.lane i).drop,
         counters := { (s.lane i).counters with abandoned := (u.lane i).counters.abandoned },
         journal := (u.lane i).journal, pacing := (u.lane i).pacing }) ∧
  (∀ (s : State) (i : LaneIdx) (beams : FaultBeams) (t : Nat), s.rstHeld = false → (s.lane i).gate = .fault beams (some t) →
     t + 2000 ≤ s.now → (s.lane i).quietPoint = none →
     ∃ u, exec (.faultClear i) s = .next u ∧ (u.lane i).gate.beamFault = none ∧
       u.lane i = { s.lane i with
         gate := .idle, stuckA := none, stuckB := none, journal := (u.lane i).journal, pacing := (u.lane i).pacing } ∧
       (u.lane i).journal.entries.getLast? = some ⟨(s.lane i).journal.nextSeq, s.stamp, .fault .beamClear⟩) ∧
  (∀ (s : State) (i : LaneIdx) (beams : FaultBeams) (t : Nat), s.rstHeld = false → (s.lane i).gate = .fault beams (some t) →
     t + 2000 ≤ s.now →
     exec (.faultClear i) s = .next (finish ((((s.modLane i (fun l => { l with gate := .idle, stuckA := none, stuckB := none })).journalWrite
       i (.fault .beamClear)).post (.beamClear i)).quietTest i)))

/-! ## Sensor heads and identity capture -/

/-- A code frame from a PRESENT head by Table 2-3 (R24 to R29): an open window takes it, the item that waits takes it while its grace runs, else the
early hold takes it, a different held code being a stray read; at a reversing item at A and in FAULT it is a stray read itself. A
code frame from a LOST head brings it back as a STATUS frame with condition 0 does and is then routed (R22); in OFF it is discarded (R19). -/
def Obligations.CodeRouting : Prop :=
  (∀ (s : State) (i : LaneIdx) (o t n since : Nat) (it : FwdItem), s.rstHeld = false → o ≤ 4095 → t ≤ 255 → n ≤ 1048575 →
     (s.lane i).head = .present since →
     let it' : FwdItem := { it with code := match it.code with
       | .none => .one ⟨o, t, n⟩
       | .one c => if c = ⟨o, t, n⟩ then .one c else .multi
       | .multi => .multi }
     ((s.lane i).gate = .enter it → exec (.codeFrame i o t n) s = .next (finish (s.modLane i (fun l => { l with
       headRx := .hunting, head := .present s.now, gate := .enter it' })))) ∧
     ((s.lane i).gate = .span it → exec (.codeFrame i o t n) s = .next (finish (s.modLane i (fun l => { l with
       headRx := .hunting, head := .present s.now, gate := .span it' })))) ∧
     (∀ x, (s.lane i).gate = .exitEnter x it → exec (.codeFrame i o t n) s = .next (finish (s.modLane i (fun l => { l with
       headRx := .hunting, head := .present s.now, gate := .exitEnter x it' })))) ∧
     ((s.lane i).gate = .exit it → (s.lane i).grace ≠ none → exec (.codeFrame i o t n) s = .next (finish (s.modLane i (fun l => { l with
       headRx := .hunting, head := .present s.now, gate := .exit it' }))))) ∧
  (∀ (s : State) (i : LaneIdx) (o t n since : Nat), s.rstHeld = false → o ≤ 4095 → t ≤ 255 → n ≤ 1048575 →
     (s.lane i).head = .present since →
     (((s.lane i).gate = .idle ∨ (∃ it, (s.lane i).gate = .exit it) ∨ ∃ seen, (s.lane i).gate = .back seen) →
       (s.lane i).grace = none → 0 < (s.lane i).cfg.earlyHold →
       exec (.codeFrame i o t n) s = .next (finish (s.modLane i (fun l => { l with
         headRx := .hunting, head := .present s.now, early := some ⟨⟨o, t, n⟩, s.now⟩,
         counters := match l.early with
           | some h => if h.code = ⟨o, t, n⟩ then l.counters else l.counters.raise .strayReads
           | none => l.counters })))) ∧
     (((s.lane i).gate = .idle ∨ (∃ it, (s.lane i).gate = .exit it) ∨ ∃ seen, (s.lane i).gate = .back seen) →
       (s.lane i).grace = none → (s.lane i).cfg.earlyHold = 0 →
       exec (.codeFrame i o t n) s = .next (finish (s.modLane i (fun l => { l with
         headRx := .hunting, head := .present s.now, counters := l.counters.raise .strayReads })))) ∧
     (((s.lane i).gate = .idle ∨ ∃ seen, (s.lane i).gate = .back seen) → (s.lane i).grace ≠ none →
       exec (.codeFrame i o t n) s = .next (finish (s.modLane i (fun l => { l with
         headRx := .hunting, head := .present s.now,
         waiting := l.waiting.map (fun w => { w with item := { w.item with code := match w.item.code with
           | .none => .one ⟨o, t, n⟩
           | .one c => if c = ⟨o, t, n⟩ then .one c else .multi
           | .multi => .multi } }) })))) ∧
     (((∃ seen, (s.lane i).gate = .backSpan seen) ∨ (∃ seen, (s.lane i).gate = .backExit seen) ∨
         ∃ beams timer, (s.lane i).gate = .fault beams timer) →
       exec (.codeFrame i o t n) s = .next (finish (s.modLane i (fun l => { l with
         headRx := .hunting, head := .present s.now, counters := l.counters.raise .strayReads }))))) ∧
  (∀ (s : State) (i : LaneIdx) (o t n : Nat), s.rstHeld = false → o ≤ 4095 → t ≤ 255 → n ≤ 1048575 →
     ((s.lane i).head = .off → exec (.codeFrame i o t n) s =
       .next (finish (s.modLane i (fun l => { l with headRx := .hunting })))) ∧
     ((s.lane i).head = .lost → ∃ v, exec (.statusFrame i 0) s = .next v ∧ (∃ since, (v.lane i).head = .present since) ∧
       exec (.codeFrame i o t n) s = exec (.codeFrame i o t n) v))

/-- MEASURE and STATUS frames: a measurement replaces the latest one and does not end a loss (R21, R23); a STATUS frame in each head state (Table
2-2). A fault code from a PRESENT head is a loss (R21): the head is LOST with that code, a held code is discarded as a stray read, every forward
item held is marked head-lost (in EXIT_ENTER both, the model's reading, log 15), the loss is journalled and HEAD_LOST is posted. Condition 0 from a
LOST head is a return (R22): it is PRESENT, the return is journalled and HEAD_BACK is posted. -/
def Obligations.HeadFrames : Prop :=
  (∀ (s : State) (i : LaneIdx) (v : Nat), s.rstHeld = false → v ≤ 65535 →
     (∀ since, (s.lane i).head = .present since →
       exec (.measureFrame i 0 v) s = .next (finish (s.modLane i (fun l => { l with
         headRx := .hunting, head := .present s.now, measure := some ⟨⟨.layers, v⟩, s.now⟩ }))) ∧
       exec (.measureFrame i 1 v) s = .next (finish (s.modLane i (fun l => { l with
         headRx := .hunting, head := .present s.now, measure := some ⟨⟨.weight, v⟩, s.now⟩ })))) ∧
     ((s.lane i).head = .lost →
       exec (.measureFrame i 0 v) s = .next (finish (s.modLane i (fun l => { l with
         headRx := .hunting, measure := some ⟨⟨.layers, v⟩, s.now⟩ }))) ∧
       exec (.measureFrame i 1 v) s = .next (finish (s.modLane i (fun l => { l with
         headRx := .hunting, measure := some ⟨⟨.weight, v⟩, s.now⟩ })))) ∧
     ((s.lane i).head = .off →
       exec (.measureFrame i 0 v) s = .next (finish (s.modLane i (fun l => { l with headRx := .hunting }))) ∧
       exec (.measureFrame i 1 v) s = .next (finish (s.modLane i (fun l => { l with headRx := .hunting }))))) ∧
  (∀ (s : State) (i : LaneIdx), s.rstHeld = false →
     (∀ since, (s.lane i).head = .present since → exec (.statusFrame i 0) s =
       .next (finish (s.modLane i (fun l => { l with headRx := .hunting, head := .present s.now })))) ∧
     (∀ since c, (s.lane i).head = .present since → 1 ≤ c → c ≤ 255 → ∃ u, exec (.statusFrame i c) s = .next u ∧
       u = finish ((s.modLane i (fun l => { l with headRx := .hunting })).headLosing i (.code c) c) ∧
       (u.lane i).head = .lost ∧ (u.lane i).lastFault = c ∧ (u.lane i).early = none ∧
       u.lane i = { s.lane i with
         headRx := .hunting, head := .lost, lastFault := c, early := none, counters := (u.lane i).counters, gate := (u.lane i).gate,
         waiting := (u.lane i).waiting, journal := (u.lane i).journal, pacing := (u.lane i).pacing } ∧
       (u.lane i).journal.entries.getLast? =
         some ⟨(s.lane i).journal.nextSeq, s.stamp, .fault (.headLost (.code c))⟩) ∧
     ((s.lane i).head = .lost → ∃ u, exec (.statusFrame i 0) s = .next u ∧
       u = finish (((s.modLane i (fun l => { l with headRx := .hunting, head := .present s.now })).journalWrite i (.fault .headBack)).post
         (.headBack i)) ∧
       (u.lane i).journal.entries.getLast? = some ⟨(s.lane i).journal.nextSeq, s.stamp, .fault .headBack⟩ ∧
       u.lane i = { s.lane i with
         headRx := .hunting, head := .present s.now, journal := (u.lane i).journal, pacing := (u.lane i).pacing }) ∧
     (∀ c, (s.lane i).head = .lost → 1 ≤ c → c ≤ 255 → exec (.statusFrame i c) s =
       .next (finish (s.modLane i (fun l => { l with headRx := .hunting, lastFault := c })))) ∧
     (∀ c, (s.lane i).head = .off → c ≤ 255 → exec (.statusFrame i c) s =
       .next (finish (s.modLane i (fun l => { l with headRx := .hunting })))))

/-- Timers that run out: head silence (R21), which marks every forward item of the gate, in EXIT_ENTER both (the model's reading, log 15), discards
a held code as a stray read, is journalled and posts HEAD_LOST; the early hold (R26), a late grace with no item waiting (R27), after which the drain
is tested (R106), the reject window of the oldest entry of the reject list (R54), and the hold period of the oldest sighting, then counted as aged
(R91). -/
def Obligations.TimersEnd : Prop :=
  (∀ (s : State) (i : LaneIdx) (t : Nat), s.rstHeld = false → (s.lane i).head = .present t → t + 2000 ≤ s.now →
     ∃ u, exec (.headSilence i) s = .next u ∧ u = finish (s.headLosing i .silent (s.lane i).lastFault) ∧
       (u.lane i).head = .lost ∧ (u.lane i).lastFault = (s.lane i).lastFault ∧
       (u.lane i).early = none ∧
       (u.lane i).counters = (if (s.lane i).early = none then (s.lane i).counters else (s.lane i).counters.raise .strayReads) ∧
       (u.lane i).gate = (s.lane i).gate.mapItems (fun it => { it with headLost := true }) ∧
       (u.lane i).waiting = (s.lane i).waiting.map (fun w => { w with item := { w.item with headLost := true } }) ∧
       u.lane i = { s.lane i with
         head := .lost, early := none, counters := (u.lane i).counters, gate := (u.lane i).gate, waiting := (u.lane i).waiting,
         journal := (u.lane i).journal, pacing := (u.lane i).pacing }) ∧
  ((∀ (s : State) (i : LaneIdx) (h : HeldCode), s.rstHeld = false → (s.lane i).early = some h →
     h.since + (s.lane i).cfg.earlyHold ≤ s.now → exec (.earlyHoldExpiry i) s = .next (finish (s.modLane i (fun l => { l with
       early := none, counters := l.counters.raise .strayReads })))) ∧
   (∀ (s : State) (i : LaneIdx) (t : Nat), s.rstHeld = false → (s.lane i).grace = some t → (s.lane i).waiting = none →
     (s.lane i).quietPoint = none → t + (s.lane i).cfg.lateGrace ≤ s.now →
     exec (.lateGraceExpiry i) s = .next (finish (s.modLane i (fun l => { l with grace := none })))) ∧
   (∀ (s : State) (i : LaneIdx) (t : Nat), s.rstHeld = false → (s.lane i).grace = some t → (s.lane i).waiting = none →
     t + (s.lane i).cfg.lateGrace ≤ s.now →
     exec (.lateGraceExpiry i) s = .next (finish ((s.modLane i (fun l => { l with grace := none })).quietTest i)))) ∧
  ((∀ (s : State) (i : LaneIdx) (e : RejectEntry), s.rstHeld = false → (s.lane i).rejects.getLast? = some e →
     e.completed + (s.lane i).cfg.rejectWindow ≤ s.now →
     exec (.rejectWindowExpiry i) s = .next (finish (s.modLane i (fun l => { l with rejects := l.rejects.dropLast })))) ∧
   (∀ (s : State) (e : Sighting) (rest : List Sighting), s.rstHeld = false → s.sightings = e :: rest →
     e.lastSeen + s.holdPeriod * 1000 ≤ s.now →
     exec .sightingAged s = .next (finish { s with
       sightings := rest, yard := { s.yard with aged := if s.yard.aged = 4294967295 then 0 else s.yard.aged + 1 } })))

/-- Handover (R27, R29 to R32, R44, R76). The capture cause by the cases of Table 2-4 in order. An item is handed on at its completion when its late
grace has ended, and waits when it runs; a waiting item is handed on when its grace runs out or when A blocks. To hand an item on is to raise the
counter of its capture cause, count it into accumulation, and classify it into an OPEN or DRAINING lane's drop, or else to journal, count and report
it as a stray; the drain is tested afterwards (`EntryMakesRoom`). `endGrace` ends a late grace and hands a waiting item on, as an A block does
(R27); `handOverWaiting` does so where an item waits, as the drop events and LANE.OFF do first (R30). A waiting item whose grace ends on a lane that
holds no drop is a stray, counted and journalled, and no drop, sighting or record changes. -/
def Obligations.HandoverRule : Prop :=
  (∀ (kind : LaneKind) (it : FwdItem),
     let fits : Option Measurement := match it.sample with
       | some m => if (kind = .crate ∧ m.form = .layers ∧ 1 ≤ m.value ∧ m.value ≤ 12) ∨
           (kind = .keg ∧ m.form = .weight ∧ m.value ≤ 2000) then some m else none
       | none => none
     (it.headLost = true → settleCapture kind it = .unread fits) ∧
     (it.headLost = false → it.code = .multi → settleCapture kind it = .multiCode fits) ∧
     (it.headLost = false → it.code = .none → settleCapture kind it = .unread fits) ∧
     (∀ c, it.headLost = false → it.code = .one c → fits = none → settleCapture kind it = .noMeasure c) ∧
     (∀ c m, it.headLost = false → it.code = .one c → fits = some m → settleCapture kind it = .ok c m)) ∧
  (∀ (s : State) (i : LaneIdx) (t g : Nat) (w : Waiting), s.rstHeld = false → (s.lane i).waiting = some w → (s.lane i).grace = some g →
     (g + (s.lane i).cfg.lateGrace ≤ s.now → exec (.lateGraceExpiry i) s = .next (finish
       (((s.modLane i (fun l => { l with grace := none, waiting := none })).handOver i w.item w.completed).quietTest i))) ∧
     ((s.lane i).gate = .idle → (s.lane i).beamA.settled = false → (s.lane i).beamA.hold = some t → t + 3 ≤ s.now →
       exec (.beamEdge i .a) s = .next (finish (((s.modLane i (fun l => { l with
         beamA := { l.beamA with settled := true, hold := none }, stuckA := some s.now, lastABlock := some s.now, grace := none,
         waiting := none })).handOver i w.item w.completed).modLane i (fun l => { l with
           early := none,
           gate := .enter
             { opened := s.now, longTimer := some s.now, long := false, sample := none, aCleared := none,
               code := match l.early with | some h => .one h.code | none => .none,
               headLost := decide (l.head = .lost) } }))))) ∧
  (∀ (s : State) (i : LaneIdx) (t : Nat) (it : FwdItem) (g : Gate), s.rstHeld = false → (s.lane i).beamB.settled = true →
     (s.lane i).beamB.hold = some t → t + 3 ≤ s.now →
     (((s.lane i).gate = .exit it ∧ g = .idle) ∨ ∃ e, (s.lane i).gate = .exitEnter it e ∧ g = .enter e) →
     let passed (l : Lane) : Lane := { l with
       beamB := { l.beamB with settled := false, hold := none }, stuckB := none, gate := g,
       counters := if it.long then (l.counters.raise .forward).raise .longItems else l.counters.raise .forward }
     ((s.lane i).grace = none → exec (.beamEdge i .b) s =
       .next (finish (((s.modLane i passed).handOver i it s.now).quietTest i))) ∧
     ((s.lane i).grace ≠ none → exec (.beamEdge i .b) s =
       .next (finish (s.modLane i (fun l => { passed l with waiting := some ⟨it, s.now⟩ }))))) ∧
  (∀ (s : State) (i : LaneIdx) (it : FwdItem) (completed : Nat),
     let capture := settleCapture (s.lane i).cfg.kind it
     let item : Item := ⟨it.opened, it.aCleared.getD completed, completed, it.long, capture⟩
     let counted := (s.modLane i (fun l => { l with counters := l.counters.raise (match capture with
       | .ok _ _ => .paired
       | .noMeasure _ => .paired
       | .unread _ => .unread
       | .multiCode _ => .multiCode) })).accumulate i
     (∀ d, (s.lane i).drop = some d → ((s.lane i).state = .opened ∨ (s.lane i).state = .draining) →
       s.handOver i it completed = counted.classify i d.record item) ∧
     ((s.lane i).state ≠ .opened → (s.lane i).state ≠ .draining →
       s.handOver i it completed = ((counted.journalWrite i (.stray it.long capture (s.now - it.opened)
         (s.now - it.aCleared.getD completed) (s.now - completed))).modLane i (fun l => { l with
           counters := l.counters.raise .strayItems })).post (.stray i (s.lane i).journal.nextSeq capture.cause capture.code))) ∧
  (∀ (s : State) (i : LaneIdx),
     ((s.lane i).waiting = none → s.endGrace i = s.modLane i (fun l => { l with grace := none }) ∧ s.handOverWaiting i = s) ∧
     (∀ w, (s.lane i).waiting = some w →
       s.endGrace i = (s.modLane i (fun l => { l with grace := none, waiting := none })).handOver i w.item w.completed ∧
       s.handOverWaiting i = s.endGrace i)) ∧
  (∀ (s : State) (i : LaneIdx) (t : Nat) (w : Waiting), s.rstHeld = false → (s.lane i).grace = some t →
     (s.lane i).waiting = some w → (s.lane i).drop = none → t + (s.lane i).cfg.lateGrace ≤ s.now →
     ∃ u, exec (.lateGraceExpiry i) s = .next u ∧ (u.lane i).grace = none ∧ (u.lane i).waiting = none ∧ (u.lane i).drop = none ∧
       (u.lane i).occupancy = (if (s.lane i).occupancy < (s.lane i).cfg.capacity then (s.lane i).occupancy + 1
         else (s.lane i).occupancy) ∧
       (u.lane i).counters.strayItems = (s.lane i).counters.strayItems.raise ∧
       (u.lane i).journal.nextSeq = nextSequence (s.lane i).journal.nextSeq ∧
       (∃ body, (u.lane i).journal.entries.getLast? = some ⟨(s.lane i).journal.nextSeq, s.stamp, body⟩ ∧ body.kind = 1) ∧
       u.lane i = { s.lane i with
         grace := none, waiting := none, occupancy := (u.lane i).occupancy, peak := (u.lane i).peak, latch := (u.lane i).latch,
         counters := (u.lane i).counters, journal := (u.lane i).journal, pacing := (u.lane i).pacing } ∧
       u.sightings = s.sightings ∧ u.store = s.store ∧ u.tables = s.tables)

/-! ## Lane control -/

/-- Occupancy: a take-off pulse lowers it, or counts a phantom at 0, and releases the latch at the release threshold (R43, R45, R46), which is tested
at a phantom too (the model's reading, log 26); in OFF only the debouncer follows; a handover counted into accumulation raises it, and at the
capacity overflows and sets the latch (R44). Pacing: the thresholds of Table 3-3, the output by the first case of R49 that applies, and the levels
of PACE1 and PACE0 for each output (Table 3-4). -/
def Obligations.OccupancyAndPacing : Prop :=
  ((∀ (s : State) (i : LaneIdx) (t : Nat), s.rstHeld = false → (s.lane i).takeoff.settled = false →
      (s.lane i).takeoff.hold = some t → t + 3 ≤ s.now →
      ((s.lane i).inService = false → exec (.takeoffPulse i) s =
        .next (finish (s.modLane i (fun l => { l with takeoff := { l.takeoff with settled := true, hold := none } })))) ∧
      ((s.lane i).inService = true → 0 < (s.lane i).occupancy → exec (.takeoffPulse i) s =
        .next (finish (s.modLane i (fun l => { l with
          takeoff := { l.takeoff with settled := true, hold := none }, occupancy := l.occupancy - 1,
          latch := l.latch && decide (releaseAt l.cfg.capacity < l.occupancy - 1) })))) ∧
      ((s.lane i).inService = true → (s.lane i).occupancy = 0 → exec (.takeoffPulse i) s =
        .next (finish (s.modLane i (fun l => { l with
          takeoff := { l.takeoff with settled := true, hold := none }, counters := l.counters.raise .phantoms,
          latch := l.latch && decide (releaseAt l.cfg.capacity < 0) }))))) ∧
   (∀ (s : State) (i : LaneIdx),
      ((s.lane i).occupancy < (s.lane i).cfg.capacity → s.accumulate i = s.modLane i (fun l => { l with
        occupancy := l.occupancy + 1, peak := max l.peak (l.occupancy + 1) })) ∧
      ((s.lane i).cfg.capacity ≤ (s.lane i).occupancy → (s.lane i).latch = true → s.accumulate i =
        s.modLane i (fun l => { l with counters := l.counters.raise .overflows })) ∧
      ((s.lane i).cfg.capacity ≤ (s.lane i).occupancy → (s.lane i).latch = false → s.accumulate i =
        (s.modLane i (fun l => { l with counters := l.counters.raise .overflows, latch := true })).post
          (.accumFull i (s.lane i).cfg.capacity)))) ∧
  ((slowAt 8 = 6 ∧ releaseAt 8 = 4 ∧ slowAt 16 = 12 ∧ releaseAt 16 = 8 ∧ slowAt 32 = 26 ∧ releaseAt 32 = 20) ∧
   ∀ l : Lane,
     ((l.state = .off ∨ l.state = .idle ∨ l.state = .parked) → l.pacingDue = .stop) ∧
     ((l.state = .opened ∨ l.state = .draining) →
       ((l.latch = true ∨ l.gate.beamFault ≠ none) → l.pacingDue = .stop) ∧
       (l.latch = false → l.gate.beamFault = none →
         ((slowAt l.cfg.capacity ≤ l.occupancy ∨ l.degraded = true ∨ l.head = .lost) → l.pacingDue = .slow) ∧
         (l.occupancy < slowAt l.cfg.capacity → l.degraded = false → l.head ≠ .lost → l.pacingDue = .run)))) ∧
  (∀ l : Lane, (l.pacing = .stop → l.paceLines = (false, false)) ∧ (l.pacing = .slow → l.paceLines = (false, true)) ∧
     (l.pacing = .run → l.paceLines = (true, true)))

/-- A reject press on an OPEN or DRAINING lane applies to the newest entry of the reject list (R55): one item and the entry's units move from the
entry's line, which keeps its place, to the line (class, DAMAGED, 0), made at the end when there is none; every other line and the count of
classified items stay. A press is late, and raises the late-reject counter alone (R56), when the list is empty, on an IDLE or PARKED lane, with
32 lines and no DAMAGED line, and with a DAMAGED line at 65,535 items. In OFF a press is discarded. -/
def Obligations.RejectPressRule : Prop :=
  (∀ (s : State) (i : LaneIdx) (t : Nat) (e : RejectEntry) (rest : List RejectEntry) (d : LaneDrop) (src : Line), s.rstHeld = false →
     (s.lane i).reject.settled = false → (s.lane i).reject.hold = some t → t + 20 ≤ s.now → (s.lane i).counting = true →
     (s.lane i).drop = some d → (s.lane i).rejects = e :: rest →
     lineOf d.record.lines (some e.cls) e.disposition e.value = some src → 1 ≤ src.items → e.units ≤ src.units →
     (match lineOf d.record.lines (some e.cls) .damaged 0 with
       | some l => l.items < 65535
       | none => d.record.lines.length < 32) →
     (e.disposition = .accepted ∨ e.disposition = .heavy) →
     ∃ u d', exec (.rejectPress i) s = .next u ∧ (u.lane i).drop = some d' ∧ d'.state = d.state ∧
       d'.record = { d.record with
         lines := d'.record.lines,
         rejects := (if d.record.rejects < 65535 then d.record.rejects + 1 else d.record.rejects) } ∧
       lineOf d'.record.lines (some e.cls) e.disposition e.value =
         some { src with items := src.items - 1, units := src.units - e.units } ∧
       lineOf d'.record.lines (some e.cls) .damaged 0 = some (match lineOf d.record.lines (some e.cls) .damaged 0 with
         | some l => { l with items := l.items + 1, units := l.units + e.units }
         | none => ⟨some e.cls, .damaged, 0, 1, e.units⟩) ∧
       (∀ cls disp v, (cls, disp, v) ≠ (some e.cls, e.disposition, e.value) → (cls, disp, v) ≠ (some e.cls, .damaged, 0) →
         lineOf d'.record.lines cls disp v = lineOf d.record.lines cls disp v) ∧
       d'.record.lines.map (fun l => (l.cls, l.disposition, l.value)) =
         d.record.lines.map (fun l => (l.cls, l.disposition, l.value)) ++
           (if lineOf d.record.lines (some e.cls) .damaged 0 = none then [(some e.cls, .damaged, 0)] else []) ∧
       d'.record.classified = d.record.classified ∧ d'.record.amount + e.units * e.value = d.record.amount ∧
       u.lane i = { s.lane i with
         reject := { (s.lane i).reject with settled := true, hold := none }, drop := some d', rejects := rest,
         counters := (s.lane i).counters.raise .rejectsApplied, journal := (u.lane i).journal, pacing := (u.lane i).pacing } ∧
       u.sightings = s.sightings ∧ u.tables = s.tables ∧
       (u.lane i).journal.entries.getLast? = some ⟨(s.lane i).journal.nextSeq, s.stamp, .reject e.seq e.cls e.units⟩) ∧
  (∀ (s : State) (i : LaneIdx) (t : Nat) (e : RejectEntry) (rest : List RejectEntry) (d : LaneDrop), s.rstHeld = false →
     (s.lane i).reject.settled = false → (s.lane i).reject.hold = some t → t + 20 ≤ s.now → (s.lane i).counting = true →
     (s.lane i).drop = some d → (s.lane i).rejects = e :: rest →
     (match lineOf d.record.lines (some e.cls) .damaged 0 with
       | some l => 65535 ≤ l.items
       | none => 32 ≤ d.record.lines.length) →
     exec (.rejectPress i) s = .next (finish (s.modLane i (fun l => { l with
       reject := { l.reject with settled := true, hold := none }, counters := l.counters.raise .lateRejects })))) ∧
  (∀ (s : State) (i : LaneIdx) (t : Nat), s.rstHeld = false → (s.lane i).reject.settled = false →
     (s.lane i).reject.hold = some t → t + 20 ≤ s.now →
     ((s.lane i).inService = true → ((s.lane i).state = .idle ∨ (s.lane i).state = .parked ∨ (s.lane i).rejects = []) →
       exec (.rejectPress i) s = .next (finish (s.modLane i (fun l => { l with
         reject := { l.reject with settled := true, hold := none }, counters := l.counters.raise .lateRejects })))) ∧
     ((s.lane i).inService = false → exec (.rejectPress i) s =
       .next (finish (s.modLane i (fun l => { l with reject := { l.reject with settled := true, hold := none } })))))

/-- An item joins the read-quality window (R50 to R52): the window keeps to W, and one join declares, restores or neither; a declaration and a
restoration write their FAULT entry and post READ_DEGRADED, with the bad items and the items in the window, or READ_RESTORED, and nothing else
changes. -/
def Obligations.ReadQualityRule : Prop :=
  ∀ (s : State) (i : LaneIdx) (bad : Bool), 1 ≤ (s.lane i).cfg.readWindow →
    (s.lane i).window.length ≤ (s.lane i).cfg.readWindow →
    let l := s.lane i
    let w := ((if l.window.length = l.cfg.readWindow then l.window.tail else l.window) ++ [bad])
    let u := (s.joinWindow i bad).lane i
    let bads := (w.filter id).length
    let joined := s.modLane i (fun l => { l with window := w })
    let declares : Prop := l.degraded = false ∧ bad = true ∧ l.cfg.declareCount ≤ bads
    let restores : Prop := l.degraded = true ∧ bad = false ∧ l.cfg.clearRun ≤ w.length ∧ ∀ j ∈ w.drop (w.length - l.cfg.clearRun), j = false
    (declares → s.joinWindow i bad = ((joined.modLane i (fun l => { l with degraded := true })).journalWrite i
      (.fault (.readDegraded bads w.length))).post (.readDegraded i bads w.length)) ∧
    (restores → s.joinWindow i bad = ((joined.modLane i (fun l => { l with degraded := false })).journalWrite i
      (.fault .readRestored)).post (.readRestored i)) ∧
    (¬ declares → ¬ restores → s.joinWindow i bad = joined) ∧
    u.window = w ∧ w.length ≤ l.cfg.readWindow ∧
    (l.degraded = false → (u.degraded = true ↔ bad = true ∧ l.cfg.declareCount ≤ (w.filter id).length)) ∧
    (l.degraded = true → (u.degraded = false ↔
      bad = false ∧ l.cfg.clearRun ≤ w.length ∧ ∀ j ∈ w.drop (w.length - l.cfg.clearRun), j = false))

/-! ## Classification -/

/-- A classification (R77, R84, R86 to R88). The item is placed once: on the line with its key, which is made at the end when there is none, or, when
there is no room or the ladder left it unresolved, in the tally of its cause; line items and unresolved items together rise by 1. Then, in this
order, the ITEM entry is written, the item joins the read window, a paying item joins the reject list, and an alert is posted. The premises keep
the six tallies within their stated range. -/
def Obligations.ClassificationAddsOneItem : Prop :=
  ∀ (s : State) (i : LaneIdx) (d : LaneDrop) (it : Item), (s.lane i).drop = some d →
    (∀ c, (d.record.unresolved.get c).items < 4294967295) →
    let r := s.ladder i d.record it.capture
    let v := r.2
    (∀ c, (d.record.unresolved.get c).units + v.units ≤ 51539607540) →
    let value := v.value.getD 0
    ∃ (p : DropRec) (o : ItemOutcome),
      p = { d.record with lines := p.lines, unresolved := p.unresolved, long := p.long } ∧
      p.long = (if it.long then (if d.record.long < 65535 then d.record.long + 1 else d.record.long) else d.record.long) ∧
      p.classified = d.record.classified + 1 ∧
      (∀ c, v.outcome = .unresolved c → o = .unresolved c) ∧
      (∀ disp l, v.outcome = .line disp → lineOf d.record.lines v.cls disp value = some l →
        (l.items < 65535 → o = .line disp ∧
          lineOf p.lines v.cls disp value = some { l with items := l.items + 1, units := l.units + v.units } ∧
          (∀ cls' disp' value', (cls', disp', value') ≠ (v.cls, disp, value) →
            lineOf p.lines cls' disp' value' = lineOf d.record.lines cls' disp' value') ∧
          p.lines.map (fun l => (l.cls, l.disposition, l.value)) =
            d.record.lines.map (fun l => (l.cls, l.disposition, l.value))) ∧
        (65535 ≤ l.items → o = .unresolved .linesFull)) ∧
      (∀ disp, v.outcome = .line disp → lineOf d.record.lines v.cls disp value = none →
        (d.record.lines.length < 32 → o = .line disp ∧ p.lines = d.record.lines ++ [⟨v.cls, disp, value, 1, v.units⟩]) ∧
        (32 ≤ d.record.lines.length → o = .unresolved .linesFull)) ∧
      (∀ disp, o = .line disp → p.unresolved = d.record.unresolved) ∧
      (∀ c, o = .unresolved c → p.lines = d.record.lines ∧ ∀ c', p.unresolved.get c' =
        if c' = c then ⟨(d.record.unresolved.get c).items + 1, (d.record.unresolved.get c).units + v.units⟩
        else d.record.unresolved.get c') ∧
      (let seq := (s.lane i).journal.nextSeq
       let judged := ((r.1.modLane i (fun l => { l with drop := some { d with record := p } })).journalWrite i
         (.item d.record.number it.long it.capture v.cls o v.units v.value v.firstLane (s.now - it.opened) (s.now - it.aCleared)
           (s.now - it.completed))).joinWindow i (match it.capture with
             | .unread _ => true
             | .multiCode _ => true
             | _ => false)
       let listed := judged.modLane i (fun l => { l with rejects := match o with
         | .line .accepted => (⟨seq, it.completed, v.cls.getD 0, .accepted, value, v.units⟩ :: l.rejects).take 16
         | .line .heavy => (⟨seq, it.completed, v.cls.getD 0, .heavy, value, v.units⟩ :: l.rejects).take 16
         | _ => l.rejects })
       (v.alerts = [] → s.classify i d.record it = listed) ∧
       (∀ disp code, v.alerts ≠ [] → v.outcome = .line disp → it.capture.code = some code →
         s.classify i d.record it =
           listed.post (.itemAlert i d.record.number seq code (v.cls.getD 0) disp v.alerts)))

/-- The ladder of Table 5-1, each rung with the class, units, value, first lane and alerts it decides (R78 to R85): what it reads it examines; a keg
held in the Sighting List is refreshed at the newest end (R90), any other is learned there, a full list losing its oldest entry, counted as
evicted (R89). -/
def Obligations.LadderRungs : Prop :=
  (∀ (s : State) (i : LaneIdx) (d : DropRec),
     let kind := (s.lane i).cfg.kind
     let layers (m : Option Measurement) : Nat := match kind, m with
       | .crate, some m => m.value
       | _, _ => 1
     (∀ m, s.ladder i d (.unread m) = (s, ⟨.unresolved .unread, none, layers m, none, none, []⟩)) ∧
     (∀ m, s.ladder i d (.multiCode m) = (s, ⟨.unresolved .multiCode, none, layers m, none, none, []⟩)) ∧
     (∀ c, s.ladder i d (.noMeasure c) = (s, ⟨.unresolved .noMeasure, none, 1, none, none, []⟩)) ∧
     (∀ c m,
       let units := layers (some m)
       let s1 := s.examineClasses
       (s1.classOf c.owner c.type = none →
         s.ladder i d (.ok c m) = (s1, ⟨.unresolved .unknownCode, none, units, none, none, []⟩)) ∧
       (∀ k e, s1.classOf c.owner c.type = some (k, e) →
         (e.part.kind ≠ kind →
           s.ladder i d (.ok c m) = (s1, ⟨.unresolved .wrongLane, some k, units, some e.deposit, none, []⟩)) ∧
         (e.part.kind = kind →
           let s2 := s1.examineAccounts
           (s2.accountOf d.account = none →
             s.ladder i d (.ok c m) = (s2, ⟨.line .refused, some k, units, some 0, none, []⟩)) ∧
           (∀ ka a, s2.accountOf d.account = some (ka, a) →
             let s3 := s2.examinePoolAt a.pool
             (s3.poolAt a.pool = none →
               s.ladder i d (.ok c m) = (s3, ⟨.line .refused, some k, units, some 0, none, []⟩)) ∧
             (∀ p, s3.poolAt a.pool = some p →
               (p.accepted.getLsbD k = false →
                 s.ladder i d (.ok c m) = (s3, ⟨.line .refused, some k, units, some 0, none, []⟩)) ∧
               (p.accepted.getLsbD k = true →
                 let base := match p.overrides.find? (fun o => decide (o.cls = k)) with
                   | some o => o.deposit
                   | none => e.deposit
                 (∀ limit, e.part = .crate limit →
                   (limit < m.value →
                     s.ladder i d (.ok c m) = (s3, ⟨.unresolved .noMeasure, some k, units, some base, none, []⟩)) ∧
                   (m.value ≤ limit →
                     s.ladder i d (.ok c m) = (s3, ⟨.line .accepted, some k, units, some base, none, []⟩))) ∧
                 (∀ tare ullage full charge, e.part = .keg tare ullage full charge →
                   (c.serial = 0 →
                     s.ladder i d (.ok c m) = (s3, ⟨.unresolved .unknownCode, some k, 1, some base, none, []⟩)) ∧
                   (c.serial ≠ 0 →
                     let s4 := s3.examineMarks
                     let judged (alerts : List AlertReason) :=
                       s4.judgeKeg i d.number c m.value k tare ullage full charge base alerts
                     (s4.markAt c.owner c.serial = none → s.ladder i d (.ok c m) = judged []) ∧
                     (∀ km e', s4.markAt c.owner c.serial = some (km, e') →
                       (e'.mark = .inspect → s.ladder i d (.ok c m) = judged [.inspect]) ∧
                       (e'.mark = .barred → s.ladder i d (.ok c m) =
                         (s4, ⟨.line .barred, some k, 1, some 0, none, [.barred]⟩)))))))))))) ∧
  (∀ (s : State) (i : LaneIdx) (drop weight cls tare ullage full charge base : Nat) (code : Code) (alerts : List AlertReason),
     let judged := s.judgeKeg i drop code weight cls tare ullage full charge base alerts
     (∀ e, sightingOf s.sightings code.owner code.serial = some e → judged =
       ({ s with sightings :=
            s.sightings.filter (fun x => !(decide (x.owner = code.owner) && decide (x.serial = code.serial))) ++
              [{ e with lastSeen := s.now, repeats := min (e.repeats + 1) 255 }] },
        ⟨.line .repeated, some cls, 1, some 0, if e.firstLane = i then none else some e.firstLane, alerts⟩)) ∧
     (sightingOf s.sightings code.owner code.serial = none →
       let new : Sighting := ⟨code.owner, code.serial, i, some drop, s.now, 0⟩
       judged.1 = (if s.sightings.length < 2048 then { s with sightings := s.sightings ++ [new] }
         else { s with
           sightings := s.sightings.drop 1 ++ [new],
           yard := { s.yard with evicted := if s.yard.evicted = 4294967295 then 0 else s.yard.evicted + 1 } }) ∧
       (full ≤ weight - tare → judged.2 = ⟨.line .full, some cls, 1, some 0, none, .full :: alerts⟩) ∧
       (weight - tare < full → ullage ≤ weight - tare →
         judged.2 = ⟨.line .heavy, some cls, 1, some (base - charge), none, alerts⟩) ∧
       (weight - tare < full → weight - tare < ullage →
         judged.2 = ⟨.line .accepted, some cls, 1, some base, none, alerts⟩)))

/-! ## Money -/

/-- Credit moves (R127): the sum goes from outstanding cash to credit issued, CREDIT is posted, and a move that leaves nothing outstanding makes the
record CREDITED and final. A claim deadline that has run out (R133) and RECORD.CREDIT (R143) move the whole outstanding cash; parked drops are
offered room at the end of the event, after CREDIT and the reply (the model's reading, log 17). -/
def Obligations.CreditRules : Prop :=
  (∀ (s : State) (k : SlotIdx) (r : SettleRec) (sum : Nat) (reason : CreditReason),
     (sum < r.outstanding → s.creditMove k r sum reason =
       ((s.setRecord k { r with outstanding := r.outstanding - sum, creditIssued := r.creditIssued + sum }).post
         (.credit r.drop.number r.drop.account r.drop.station sum reason (r.creditIssued + sum) r.state.tag))) ∧
     (sum = r.outstanding → ∃ u, s.creditMove k r sum reason = u ∧
       u.recordAt k = some { r with
         outstanding := 0, creditIssued := r.creditIssued + sum, state := .credited, finalStamp := some s.host.clock } ∧
       (∀ k', k' ≠ k → u.recordAt k' = s.recordAt k') ∧ u.finalOrder = s.finalOrder ++ [k] ∧
       (∀ x, k ∉ (u.station x).queue ∧ (u.station x).queue = (s.station x).queue.filter (fun j => decide (j ≠ k))) ∧
       u.host = (s.post (.credit r.drop.number r.drop.account r.drop.station sum reason (r.creditIssued + sum) .credited)).host ∧
       u.lanes = s.lanes ∧ u.tables = s.tables ∧ u.sightings = s.sightings)) ∧
  (∀ (s : State) (k : SlotIdx) (r : SettleRec) (t : Nat), s.rstHeld = false → s.recordAt k = some r → r.state = .awaiting t →
     t ≤ s.now → exec (.claimDeadlineExpiry k) s = .next (finish ((s.creditMove k r r.outstanding .expired).enterParked))) ∧
  (∀ (s : State) (tag : Byte) (n k : Nat) (r : SettleRec), s.ready → n ≠ 0 → s.holder n = .record k r →
     ((r.state.tag = .awaiting ∨ r.state.tag = .claimed) → exec (.recordCredit tag n) s =
       .next (finish (((s.creditMove k r r.outstanding .forced).replied 0x50 tag .ok
         (.credited r.outstanding (r.creditIssued + r.outstanding))).enterParked))) ∧
     (r.state.tag ≠ .awaiting → r.state.tag ≠ .claimed →
       exec (.recordCredit tag n) s = .next (finish (s.replied 0x50 tag .state .none)))) ∧
  (∀ (s : State) (tag : Byte), s.ready →
     exec (.recordCredit tag 0) s = .next (finish (s.replied 0x50 tag .range .none)) ∧
     (∀ n, n ≠ 0 → s.holder n = .nobody → exec (.recordCredit tag n) s = .next (finish (s.replied 0x50 tag .absent .none))) ∧
     (∀ n i d, n ≠ 0 → s.holder n = .laneDrop i d →
       exec (.recordCredit tag n) s = .next (finish (s.replied 0x50 tag .state .none))))

/-- Settling divides the amount once, by Table 7-3, posts SETTLED and then, of a credit above 0, CREDIT with reason SETTLE, and leaves the record
CREDITED, final with its stamp and last in the final order, or waiting for a claim with a fresh deadline; nothing else changes but what the
examination of the accounts does (R128, R129, R132). -/
def Obligations.SettlingDivides : Prop :=
  (∀ (s : State) (k : SlotIdx) (r : SettleRec), r.cashPaid = 0 → r.unresolvedAmount = 0 →
     let a := s.examineAccounts.accountOrStandIn r.drop.account
     ∃ u r', s.settle k r = u ∧ u.recordAt k = some r' ∧ r'.amount = r.amount ∧
       r'.cashPart = (match r.station with
         | none => 0
         | some _ => match a.mode with
           | .cash => r.amount
           | .credit => 0
           | .split => min r.amount a.cashLimit) ∧
       r'.outstanding = r'.cashPart ∧ r'.outstanding + r'.creditIssued = r.amount ∧ r'.cashPaid = 0 ∧ r'.unresolvedAmount = 0 ∧
       (r'.cashPart = 0 → r'.state = .credited ∧ u.finalOrder = s.finalOrder ++ [k]) ∧
       (∀ x, 0 < r'.cashPart → r.station = some x →
         r'.state = .awaiting (s.now + (s.station x).claimPeriod * 1000) ∧ u.finalOrder = s.finalOrder)) ∧
  (∀ (s : State) (k : SlotIdx) (r : SettleRec),
     let a := s.examineAccounts.accountOrStandIn r.drop.account
     let cash : Nat := match r.station with
       | none => 0
       | some _ => match a.mode with
         | .cash => r.amount
         | .credit => 0
         | .split => min r.amount a.cashLimit
     let credit := r.amount - cash
     let d := r.drop
     let settled := s.examineAccounts.post (.settled d.number d.lane d.account d.station r.amount cash credit d.checkCode)
     let posted := if 0 < credit
       then settled.post (.credit d.number d.account d.station credit .settle credit (if cash = 0 then .credited else .awaiting)) else settled
     let divided : SettleRec := { r with cashPart := cash, outstanding := cash, creditIssued := credit }
     (cash = 0 → s.settle k r = { posted with
       finalOrder := s.finalOrder ++ [k],
       store := assocSet s.store k { divided with state := .credited, finalStamp := some s.host.clock } }) ∧
     (∀ x, 0 < cash → r.station = some x → s.settle k r = { posted with
       store := assocSet s.store k { divided with state := .awaiting (s.now + (s.station x).claimPeriod * 1000) } }))

/-- The hold reasons of Table 6-3, each present exactly when its condition holds (R113), and when the DECLARED test fails (R114); they are judged on
the drop as it enters, against the account it names. -/
def Obligations.HoldReasonsTable : Prop :=
  (∀ (d : DropRec) (a : AccountEntry),
     (.unresolved ∈ holdReasons d a ↔ 0 < d.unresolved.items) ∧
     (.declared ∈ holdReasons d a ↔ declaredFails d a.tolerance = true) ∧
     (.reverse ∈ holdReasons d a ↔ 0 < d.reverse) ∧ (.long ∈ holdReasons d a ↔ 0 < d.long) ∧
     (.gateFault ∈ holdReasons d a ↔ d.gateFault = true) ∧ (.drainCut ∈ holdReasons d a ↔ d.drainCut = true) ∧
     (.suspended ∈ holdReasons d a ↔ a.state = .suspended) ∧
     (.overLimit ∈ holdReasons d a ↔ a.holdAbove ≠ 0 ∧ a.holdAbove < d.amount)) ∧
  (∀ (d : DropRec) (tolerance : Nat),
     declaredFails d tolerance = true ↔ d.declarations ≠ [] ∧
       ((∃ e ∈ d.declarations, countedUnits d.lines e.cls + tolerance < e.units ∨ e.units + tolerance < countedUnits d.lines e.cls) ∨
        (∃ c, (∀ e ∈ d.declarations, e.cls ≠ c) ∧ tolerance < countedUnits d.lines c))) ∧
  (∀ (lines : List Line) (cls : Nat), countedUnits lines cls = ((lines.filter (fun l => decide (l.cls = some cls))).map Line.units).sum) ∧
  (∀ (s : State) (k : SlotIdx) (d : DropRec), ∃ r, (s.evaluate k d).recordAt k = some r ∧ r.drop = d ∧
    r.reasons = holdReasons d (s.examineAccounts.accountOrStandIn d.account))

/-- A drain that ends while the park order is empty: with a free slot the drop leaves its lane, which is IDLE, for the record in the lowest free slot,
a cut drop being held (R106 to R109, R112); when no room can be had the drop and its lane are PARKED (R110). -/
def Obligations.DrainEnds : Prop :=
  (∀ (s : State) (i : LaneIdx) (d : DropRec) (closed : Nat) (k : SlotIdx), s.rstHeld = false → (s.lane i).inService = true →
     (s.lane i).drop = some ⟨d, .draining closed⟩ → (s.lane i).waiting = none → s.parkOrder = [] → s.freeSlot = some k →
     let drained (cut : Bool) : DropRec := { d with
       drainCut := cut, drainEndStamp := some s.host.clock, station := some (s.lane i).cfg.binding,
       lastSeq := some (s.lane i).journal.nextSeq }
     let left (u : State) : Prop :=
       u.lane i = { s.lane i with drop := none, rejects := [], journal := (u.lane i).journal, pacing := .stop } ∧
       (∀ k', k' ≠ k → u.recordAt k' = s.recordAt k') ∧ u.sightings = s.sightings ∧ u.parkOrder = []
     ((s.lane i).gate = .idle → (s.lane i).grace = none →
       (match (s.lane i).lastABlock with
         | some t => t + (s.lane i).cfg.drainQuiet ≤ s.now
         | none => closed + (s.lane i).cfg.drainQuiet ≤ s.now) →
       ∃ u r, exec (.drainQuietPoint i) s = .next u ∧ (u.lane i).state = .idle ∧ left u ∧
         u.recordAt k = some r ∧ r.drop = drained d.drainCut ∧ r.amount = d.amount) ∧
     (closed + (s.lane i).cfg.drainLimit * 1000 ≤ s.now →
       ∃ u r, exec (.drainLimit i) s = .next u ∧ (u.lane i).state = .idle ∧ left u ∧
         u.recordAt k = some r ∧ r.drop = drained true ∧ r.amount = d.amount ∧ r.state = .held ∧
         HoldReason.drainCut ∈ r.reasons)) ∧
  (∀ (s : State) (i : LaneIdx) (d : DropRec) (closed : Nat), s.rstHeld = false → (s.lane i).inService = true →
     (s.lane i).drop = some ⟨d, .draining closed⟩ → (s.lane i).waiting = none → s.parkOrder = [] → s.freeSlot = none →
     s.finalOrder = [] → closed + (s.lane i).cfg.drainLimit * 1000 ≤ s.now →
     ∃ u, exec (.drainLimit i) s = .next u ∧ (u.lane i).state = .parked ∧ u.parkOrder = [i] ∧
       u.store = s.store ∧ u.tables = s.tables ∧ u.sightings = s.sightings ∧ u.lane i = { s.lane i with
         rejects := [], journal := (u.lane i).journal, pacing := .stop,
         drop := some ⟨{ d with
           drainCut := true, drainEndStamp := some s.host.clock, station := some (s.lane i).cfg.binding,
           lastSeq := some (s.lane i).journal.nextSeq }, .parked⟩ })

/-- The end of a drain and the way into the store (R106 to R113, R115, R130). A drain ends by quiet at the quiet point or when it becomes quiet later,
and is cut at its limit, the flag set and a waiting item handed on first. Its drop takes the lowest free slot, or that of the record that became
final earliest, removed with RECORD_REMOVED; it is parked when drops are parked already or no room can be had. A drop that enters leaves its lane, and
is evaluated once, against its account or the stand-in values of R72. Parked drops enter oldest first, while there is room, at the end of the event
(the model's reading, log 17). -/
def Obligations.EntryMakesRoom : Prop :=
  (∀ (s : State) (i : LaneIdx), s.rstHeld = false →
     exec (.drainQuietPoint i) s = .next (finish (s.quietTest i)) ∧
     (∀ d closed, (s.lane i).drop = some ⟨d, .draining closed⟩ →
       ((s.lane i).gate = .idle → (s.lane i).grace = none →
         (match (s.lane i).lastABlock with
           | some t => t + (s.lane i).cfg.drainQuiet ≤ s.now
           | none => closed + (s.lane i).cfg.drainQuiet ≤ s.now) → s.quietTest i = s.drainEnd i .quiet) ∧
       (((s.lane i).gate ≠ .idle ∨ (s.lane i).grace ≠ none ∨ (match (s.lane i).lastABlock with
           | some t => s.now < t + (s.lane i).cfg.drainQuiet
           | none => s.now < closed + (s.lane i).cfg.drainQuiet)) → s.quietTest i = s) ∧
       (closed + (s.lane i).cfg.drainLimit * 1000 ≤ s.now →
         let flagged := s.modLane i (fun l => { l with drop := some ⟨{ d with drainCut := true }, .draining closed⟩ })
         ((s.lane i).waiting = none → exec (.drainLimit i) s = .next (finish (flagged.drainEnd i .cut))) ∧
         (∀ w, (s.lane i).waiting = some w → exec (.drainLimit i) s = .next (finish
           (((flagged.modLane i (fun l => { l with grace := none, waiting := none })).handOver i w.item w.completed).drainEnd
             i .cut))))) ∧
     ((∀ d closed, (s.lane i).drop ≠ some ⟨d, .draining closed⟩) → s.quietTest i = s)) ∧
  (∀ (s : State) (i : LaneIdx) (d : LaneDrop) (how : DropEnd), (s.lane i).drop = some d →
     let r : DropRec := { d.record with
       drainEndStamp := some s.host.clock, station := some (s.lane i).cfg.binding, lastSeq := some (s.lane i).journal.nextSeq }
     let closed := (s.modLane i (fun l => { l with rejects := [], drop := some ⟨r, d.state⟩ })).journalWrite i
       (.dropClose r.number how r.classified r.amount)
     let parked := ({ closed.modLane i (fun l => { l with drop := some ⟨r, .parked⟩ }) with
       parkOrder := s.parkOrder ++ [i] }.post (.storeFull i r.number (s.parkOrder.length + 1))).enterParked
     (s.parkOrder ≠ [] → s.drainEnd i how = parked) ∧
     (s.parkOrder = [] →
       (closed.enterStore i r = none → s.drainEnd i how = parked) ∧
       (∀ t, closed.enterStore i r = some t → s.drainEnd i how = t.enterParked))) ∧
  (∀ (s : State) (i : LaneIdx) (d : DropRec),
     (∀ k, s.freeSlot = some k →
       s.enterStore i d = some ((s.modLane i (fun l => { l with drop := none })).evaluate k d)) ∧
     (∀ k rest r, s.freeSlot = none → s.finalOrder = k :: rest → s.recordAt k = some r →
       s.enterStore i d = some ((({ s with
         store := assocErase s.store k, finalOrder := s.finalOrder.filter (fun j => decide (j ≠ k)) }.post
           (.recordRemoved r.drop.number k r.state.tag r.finalStamp)).modLane i (fun l => { l with drop := none })).evaluate k d)) ∧
     (s.freeSlot = none → s.finalOrder = [] → s.enterStore i d = none) ∧
     (∀ k, s.freeSlot = some k ↔ k < 32 ∧ s.recordAt k = none ∧ ∀ j, j < k → s.recordAt j ≠ none)) ∧
  (∀ (s : State) (k : SlotIdx) (d : DropRec),
     let a : AccountEntry := match s.examineAccounts.accountOf d.account with
       | some (_, a) => a
       | none => ⟨d.account, 0, .credit, 0, 0, 0, .suspended⟩
     let r : SettleRec :=
       { drop := d, state := .held, reasons := holdReasons d a, amount := d.amount, cashPart := 0, creditIssued := 0, cashPaid := 0,
         outstanding := 0, unresolvedAmount := 0, retracts := 0, badChecks := 0, finalStamp := none }
     let reported := (s.examineAccounts.setRecord k r).post
       (.dropDone d.number d.lane d.account d.amount d.classified d.unresolved.items (holdReasons d a))
     (holdReasons d a ≠ [] → s.evaluate k d = reported) ∧ (holdReasons d a = [] → s.evaluate k d = reported.settle k r)) ∧
  (∀ s : State,
     (s.parkOrder = [] → s.enterParked = s) ∧
     (∀ i rest d, s.parkOrder = i :: rest → (s.lane i).drop = some d →
       ({ s with parkOrder := rest }.enterStore i d.record = none → s.enterParked = s) ∧
       (∀ t, { s with parkOrder := rest }.enterStore i d.record = some t → s.enterParked = t.enterParked)))

/-! ## Claims and stations -/

/-- The station links (R146): READY, as any valid frame, restarts the timer of an UP link and brings a LOST one back; a link silent for 3,000 ms is
LOST, CLOSED and FAULT keeping the station state and the others entering FAULT. Outside a dispense: a dispenser FAULT frame is recorded and
reported, and takes an OPEN station to FAULT, its queue being empty as R154 has it (R163); PICKED, PRESENTED, TAKEN and RETRACTED are ignored but
for the link (R157 to R160). Parked drops are offered room at the end of the event (the model's reading, log 17). -/
def Obligations.StationLinks : Prop :=
  (∀ (s : State) (x : StationId), s.rstHeld = false →
     (∀ since, (s.station x).link = .up since → exec (.ready x) s =
       .next (finish (s.modStation x (fun u => { u with link := .up s.now, rx := .hunting })))) ∧
     ((s.station x).link = .lost → exec (.ready x) s =
       .next (finish ((s.modStation x (fun u => { u with link := .up s.now, rx := .hunting })).post
         (.stationChange x (s.station x).state.tag true .linkBack))))) ∧
  (∀ (s : State) (x : StationId) (since : Nat), s.rstHeld = false → (s.station x).link = .up since → since + 3000 ≤ s.now →
     s.parkOrder = [] →
     (((s.station x).state = .closed ∨ (s.station x).state = .fault) → exec (.stationLinkSilence x) s =
       .next (finish ((s.modStation x (fun u => { u with link := .lost })).post
         (.stationChange x (s.station x).state.tag false .link)))) ∧
     (((s.station x).state.tag = .opened ∨ (s.station x).state.tag = .serving ∨ (s.station x).state.tag = .closing) →
       ∃ u, exec (.stationLinkSilence x) s = .next u ∧ (u.station x).state = .fault ∧ (u.station x).link = .lost ∧
         (u.station x).queue = [] ∧ (u.station x).lastFault = (s.station x).lastFault ∧
         (u.station x).cassettes = (s.station x).cassettes)) ∧
  (∀ (s : State) (x : StationId), s.rstHeld = false →
     let linked : State := match (s.station x).link with
       | .up _ => s.modStation x (fun u => { u with link := .up s.now, rx := .hunting })
       | .lost => (s.modStation x (fun u => { u with link := .up s.now, rx := .hunting })).post
           (.stationChange x (s.station x).state.tag true .linkBack)
     (∀ code, 1 ≤ code → code ≤ 255 →
       ((s.station x).state = .opened → (s.station x).queue = [] → exec (.dispenserFault x code) s = .next (finish
         (((linked.modStation x (fun u => { u with state := .fault, lastFault := code })).post
           (.stationChange x .fault true (.code code))).enterParked))) ∧
       (((s.station x).state = .closed ∨ (s.station x).state = .fault) → exec (.dispenserFault x code) s = .next (finish
         (((linked.modStation x (fun u => { u with lastFault := code })).post
           (.stationChange x (s.station x).state.tag true (.code code))).enterParked)))) ∧
     ((s.station x).state.dispense = none →
       (∀ p : Four Nat, (∀ n ∈ p.toList, n ≤ 255) →
         exec (.picked x p.c1 p.c2 p.c3 p.c4) s = .next (finish linked.enterParked)) ∧
       exec (.presented x) s = .next (finish linked.enterParked) ∧
       exec (.taken x) s = .next (finish linked.enterParked) ∧
       exec (.retracted x) s = .next (finish linked.enterParked)))

/-- Every claim gets the answer Table 7-4 gives, on the link it came from, before any DISPENSE (R134, R137, R145); one with the right code at a
SERVING station joins the tail of its queue, CLAIMED (R136); at an OPEN station it is served at once: its breakdown is dispensed and the shortfall
credited, or, with nothing to dispense, all of it is credited (R138, R154, R156). The last clause gives each as a whole next state, on a LOST link
too (R146): the answer, CREDIT, then parked drops are offered room at the end of the event (the model's reading, log 17). -/
def Obligations.ClaimRules : Prop :=
  (∀ (s : State) (x : StationId) (number code : Nat), s.rstHeld = false → number ≤ 65535 → code ≤ 65535 →
     ∃ u extra cash more, exec (.claim x number code) s = .next u ∧
       (u.station x).sent = (s.station x).sent ++ StationTx.answer number (s.claimTable x number code) extra cash :: more ∧
       (s.claimTable x number code ≠ .queued → cash = 0 ∧ more = [] ∧ (s.claimTable x number code ≠ .badCheck → extra = 0))) ∧
  (∀ (s : State) (x : StationId) (since t : Nat) (d : Dispense) (k : SlotIdx) (r : SettleRec), s.rstHeld = false → s.parkOrder = [] →
     (s.station x).link = .up since → (s.station x).state = .serving d → r.drop.number ≠ 0 → r.drop.number ≤ 65535 →
     r.drop.checkCode ≤ 65535 → s.findRecord r.drop.number = some (k, r) → r.station = some x → r.state = .awaiting t →
     (s.station x).queue.length < 4 →
     exec (.claim x r.drop.number r.drop.checkCode) s =
       .next (finish ((s.setRecord k { r with state := .claimed }).modStation x (fun u => { u with
         link := .up s.now, rx := .hunting, queue := u.queue ++ [k],
         sent := u.sent ++ [.answer r.drop.number .queued ((s.station x).queue.length + 1) r.outstanding] })))) ∧
  (∀ (s : State) (x : StationId) (since t : Nat) (k : SlotIdx) (r : SettleRec), s.rstHeld = false → s.parkOrder = [] →
     (s.station x).link = .up since → (s.station x).state = .opened → (s.station x).queue = [] → r.drop.number ≠ 0 →
     r.drop.number ≤ 65535 → r.drop.checkCode ≤ 65535 → s.findRecord r.drop.number = some (k, r) → r.station = some x →
     r.state = .awaiting t →
     let notes := breakdown (s.station x).cassettes r.outstanding
     let value := valueOf (s.station x).cassettes notes
     (0 < value → ∃ u, exec (.claim x r.drop.number r.drop.checkCode) s = .next u ∧
       (u.station x).state = .serving ⟨k, notes, value, (s.station x).takePeriod, .pick, s.now + 10000⟩ ∧ (u.station x).queue = [] ∧
       (u.station x).sent = (s.station x).sent ++ [.answer r.drop.number .queued 1 r.outstanding,
         .dispense r.drop.number notes (s.station x).takePeriod] ∧
       (u.station x).cassettes = (s.station x).cassettes ∧
       u.recordAt k = some { r with
         state := .dispensing, outstanding := value, creditIssued := r.creditIssued + (r.outstanding - value) }) ∧
     (value = 0 → ∃ u, exec (.claim x r.drop.number r.drop.checkCode) s = .next u ∧
       (u.station x).state = .opened ∧ (u.station x).queue = [] ∧
       u.recordAt k = some { r with
         state := .credited, outstanding := 0, creditIssued := r.creditIssued + r.outstanding, finalStamp := some s.host.clock })) ∧
  (∀ (s : State) (x : StationId) (t : Nat) (k : SlotIdx) (r : SettleRec), s.rstHeld = false → r.drop.number ≠ 0 → r.drop.number ≤ 65535 →
     r.drop.checkCode ≤ 65535 → s.findRecord r.drop.number = some (k, r) → r.station = some x → r.state = .awaiting t →
     let linked : State := match (s.station x).link with
       | .up _ => s.modStation x (fun u => { u with link := .up s.now, rx := .hunting })
       | .lost => (s.modStation x (fun u => { u with link := .up s.now, rx := .hunting })).post
           (.stationChange x (s.station x).state.tag true .linkBack)
     let queued (u : State) (place : Nat) : State :=
       u.modStation x (fun v => { v with sent := v.sent ++ [.answer r.drop.number .queued place r.outstanding] })
     let claimed (u : State) : Prop := exec (.claim x r.drop.number r.drop.checkCode) s = .next (finish u.enterParked)
     let notes := breakdown (s.station x).cassettes r.outstanding
     let value := valueOf (s.station x).cassettes notes
     (∀ d, (s.station x).state = .serving d → (s.station x).queue.length < 4 →
       claimed (queued ((linked.setRecord k { r with state := .claimed }).modStation x (fun v => { v with queue := v.queue ++ [k] }))
         ((s.station x).queue.length + 1))) ∧
     ((s.station x).state = .opened → (s.station x).queue = [] →
       (value = 0 → claimed ((queued linked 1).creditMove k r r.outstanding .shortfall)) ∧
       (0 < value →
         let taken : SettleRec := { r with state := .dispensing }
         let short : State := if value < r.outstanding
           then (queued linked 1).creditMove k taken (r.outstanding - value) .shortfall else (queued linked 1).setRecord k taken
         claimed (short.modStation x (fun v => { v with
           state := .serving ⟨k, notes, value, (s.station x).takePeriod, .pick, s.now + 10000⟩,
           sent := v.sent ++ [.dispense r.drop.number notes (s.station x).takePeriod] })))))

/-- Refused claims (R134, R135, R137): the answer goes to the station the claim came from with no cash, BAD_CHECK with the tries left and any other
with nothing more, and raises its own counter, one of nine; the record changes only at a wrong code, which counts, and at the third credits the
whole outstanding cash with reason LOCKED. The link is taken first (R145, R146). Parked drops are offered room at the end of the event, after CREDIT
and the answer (the model's reading, log 17). -/
def Obligations.ClaimRefusals : Prop :=
  (∀ (s : State) (x : StationId) (number code : Nat), s.rstHeld = false → number ≤ 65535 → code ≤ 65535 →
     let linked : State := match (s.station x).link with
       | .up _ => s.modStation x (fun u => { u with link := .up s.now, rx := .hunting })
       | .lost => (s.modStation x (fun u => { u with link := .up s.now, rx := .hunting })).post
           (.stationChange x (s.station x).state.tag true .linkBack)
     let answered (u : State) (a : Answer) (tries : Nat) : State :=
       (u.countYard (.refused a)).modStation x (fun v => { v with sent := v.sent ++ [.answer number a tries 0] })
     (s.claimTable x number code ≠ .queued → s.claimTable x number code ≠ .badCheck → s.claimTable x number code ≠ .locked →
       exec (.claim x number code) s = .next (finish ((answered linked (s.claimTable x number code) 0).enterParked))) ∧
     (∀ k r, s.findRecord number = some (k, r) →
       (s.claimTable x number code = .badCheck → exec (.claim x number code) s = .next (finish
         ((answered (linked.setRecord k { r with badChecks := r.badChecks + 1 }) .badCheck (3 - (r.badChecks + 1))).enterParked))) ∧
       (s.claimTable x number code = .locked → exec (.claim x number code) s = .next (finish
         ((answered (linked.creditMove k { r with badChecks := r.badChecks + 1 } r.outstanding .locked) .locked 0).enterParked))))) ∧
  (∀ y : YardCounters,
     y.raise (.refused .unknownDrop) = { y with unknownDrop := raise32 y.unknownDrop } ∧
     y.raise (.refused .wrongStation) = { y with wrongStation := raise32 y.wrongStation } ∧
     y.raise (.refused .notReady) = { y with notReady := raise32 y.notReady } ∧
     y.raise (.refused .inProgress) = { y with inProgress := raise32 y.inProgress } ∧
     y.raise (.refused .closedOut) = { y with closedOut := raise32 y.closedOut } ∧
     y.raise (.refused .stationOut) = { y with stationOut := raise32 y.stationOut } ∧
     y.raise (.refused .badCheck) = { y with badCheck := raise32 y.badCheck } ∧
     y.raise (.refused .locked) = { y with locked := raise32 y.locked } ∧
     y.raise (.refused .queueFull) = { y with queueFull := raise32 y.queueFull } ∧ y.raise (.refused .queued) = y)

/-- The breakdown (R155): from the cassettes in use, highest denomination first, as many notes as fit; at most the cash, 50 notes, and each
cassette's count. An OPEN station serves a record by it, as the cassettes stand: the shortfall is credited and no count changes. -/
def Obligations.BreakdownRule : Prop :=
  ∀ (cs : Four Cassette) (cash : Nat),
    valueOf cs (breakdown cs cash) ≤ cash ∧ noteCount (breakdown cs cash) ≤ 50 ∧
    (breakdown cs cash).c1 ≤ cs.c1.count ∧ (breakdown cs cash).c2 ≤ cs.c2.count ∧
    (breakdown cs cash).c3 ≤ cs.c3.count ∧ (breakdown cs cash).c4 ≤ cs.c4.count ∧
    (let os := orderNotes (takingOrder cs) cash 50
     breakdown cs cash = ⟨notesFrom os 0, notesFrom os 1, notesFrom os 2, notesFrom os 3⟩) ∧
    (∀ rem allowed, orderNotes [] rem allowed = []) ∧
    (∀ k c rest rem allowed,
      let n := min (min (rem / c.denomination) c.count) allowed
      orderNotes ((k, c) :: rest) rem allowed = (k, n) :: orderNotes rest (rem - n * c.denomination) (allowed - n)) ∧
    (takingOrder cs).Pairwise (fun a b => b.2.denomination < a.2.denomination ∨
      (a.2.denomination = b.2.denomination ∧ a.1 < b.1)) ∧
    (∀ k c, (k, c) ∈ takingOrder cs ↔
      c.denomination ≠ 0 ∧ ((k = 0 ∧ c = cs.c1) ∨ (k = 1 ∧ c = cs.c2) ∨ (k = 2 ∧ c = cs.c3) ∨ (k = 3 ∧ c = cs.c4))) ∧
    (∀ (s : State) (x : StationId) (k : SlotIdx) (r : SettleRec), (s.station x).state = .opened → (s.station x).queue = [k] →
      s.recordAt k = some r → (s.station x).cassettes = cs → r.outstanding = cash →
      ((s.serve x).station x).cassettes = cs ∧
      (s.serve x).recordAt k = some (if valueOf cs (breakdown cs cash) = 0
        then { r with state := .credited, outstanding := 0, creditIssued := r.creditIssued + cash, finalStamp := some s.host.clock }
        else { r with
          state := .dispensing, outstanding := valueOf cs (breakdown cs cash),
          creditIssued := r.creditIssued + (cash - valueOf cs (breakdown cs cash)) }))

/-- PICKED in step PICK at a SERVING or CLOSING station (R157). The notes ordered, or fewer: each cassette's count falls by its notes, to 0 where it
gave fewer than ordered; what the value lacks is credited as SHORTFALL; a pick of value 0 ends the dispense, any other goes on to PRESENT with 5 s.
More notes than ordered from some cassette: the dispense fails after the pick, and the counts fall, to 0 at least. A count that falls to its
threshold or below in use with the alarm armed disarms it and posts CASSETTE_LOW (R152), by rising cassette number (the model's choice, log 28).
Parked drops are offered room at the end of the event, after the station change, the counts and CASSETTE_LOW (the model's reading, log 17). -/
def Obligations.PickRule : Prop :=
  (∀ (s : State) (x : StationId) (d : Dispense) (r : SettleRec) (since : Nat) (picked : Four Nat) (mk : Dispense → StationState),
     s.rstHeld = false → (s.station x).link = .up since → (mk = StationState.serving ∨ mk = StationState.closing) →
     (s.station x).state = mk d → d.step = .pick → s.recordAt d.slot = some r → (∀ n ∈ picked.toList, n ≤ 255) →
     let cs := (s.station x).cassettes
     let linked := s.modStation x (fun u => { u with link := .up s.now, rx := .hunting })
     let event := Instr.picked x picked.c1 picked.c2 picked.c3 picked.c4
     (picked.c1 ≤ d.ordered.c1 → picked.c2 ≤ d.ordered.c2 → picked.c3 ≤ d.ordered.c3 → picked.c4 ≤ d.ordered.c4 →
       let counted := linked.setCounts x
         ⟨if picked.c1 = d.ordered.c1 then cs.c1.count - picked.c1 else 0, if picked.c2 = d.ordered.c2 then cs.c2.count - picked.c2 else 0,
          if picked.c3 = d.ordered.c3 then cs.c3.count - picked.c3 else 0, if picked.c4 = d.ordered.c4 then cs.c4.count - picked.c4 else 0⟩
       let presenting (u : State) : State := u.modStation x (fun v => { v with
         state := mk { d with step := .present picked, timeout := s.now + 5000 } })
       (0 < valueOf cs picked → valueOf cs picked = r.outstanding →
         exec event s = .next (finish ((presenting counted).enterParked))) ∧
       (0 < valueOf cs picked → valueOf cs picked < r.outstanding → exec event s = .next (finish
         ((presenting (counted.creditMove d.slot r (r.outstanding - valueOf cs picked) .shortfall)).enterParked))) ∧
       (valueOf cs picked = 0 → 0 < r.outstanding → exec event s = .next (finish
         (((counted.creditMove d.slot r r.outstanding .shortfall).endDispense x).enterParked)))) ∧
     ((d.ordered.c1 < picked.c1 ∨ d.ordered.c2 < picked.c2 ∨ d.ordered.c3 < picked.c3 ∨ d.ordered.c4 < picked.c4) →
       exec event s = .next (finish (((linked.failDispense x d (some picked) .overpick).setCounts x
         ⟨cs.c1.count - picked.c1, cs.c2.count - picked.c2, cs.c3.count - picked.c3, cs.c4.count - picked.c4⟩).enterParked)))) ∧
  (∀ (s : State) (x : StationId) (n : Four Nat),
     let cs := (s.station x).cassettes
     let low (c : Cassette) (n : Nat) : Bool := decide (n < c.count) && decide (c.denomination ≠ 0) && c.armed && decide (n ≤ c.threshold)
     let notice (number : Nat) (c : Cassette) (n : Nat) : List NoticeBody :=
       if low c n then [.cassetteLow x number c.denomination n] else []
     s.setCounts x n = (s.modStation x (fun u => { u with
       cassettes := cs.zip (fun c n => { c with count := n, armed := c.armed && !low c n }) n })).postAll
         (notice 1 cs.c1 n.c1 ++ notice 2 cs.c2 n.c2 ++ notice 3 cs.c3 n.c3 ++ notice 4 cs.c4 n.c4))

/-- PRESENTED is taken in step PRESENT (R158): the step becomes OUTCOME and its timer starts for the take period plus 10 s, and no record and
no money changes; with no dispense in progress the frame is ignored. The premise on parked drops (none parked, or no room for one) is what
R111 leaves after every event. -/
def Obligations.PresentedTaken : Prop :=
  ∀ (s : State) (x : StationId) (since : Nat), s.rstHeld = false → (s.station x).link = .up since →
    (s.parkOrder = [] ∨ (s.freeSlot = none ∧ s.finalOrder = [])) →
    (∀ d notes, (s.station x).state = .serving d → d.step = .present notes → exec (.presented x) s =
      .next (finish (s.modStation x (fun u => { u with
        link := .up s.now, rx := .hunting,
        state := .serving { d with step := .outcome notes, timeout := s.now + (d.takePeriod + 10) * 1000 } })))) ∧
    (∀ d notes, (s.station x).state = .closing d → d.step = .present notes → exec (.presented x) s =
      .next (finish (s.modStation x (fun u => { u with
        link := .up s.now, rx := .hunting,
        state := .closing { d with step := .outcome notes, timeout := s.now + (d.takePeriod + 10) * 1000 } })))) ∧
    ((s.station x).state.dispense = none → exec (.presented x) s =
      .next (finish (s.modStation x (fun u => { u with link := .up s.now, rx := .hunting }))))

/-- The outcome of a dispense. At a SERVING station with no queue and at a CLOSING one, TAKEN pays the record (R139, R159); RETRACTED raises the
tally, and the first retract of a record leaves it waiting for a claim with a fresh deadline, the second credits it (R140, R153, R160). With a queue
waiting too, the dispense ends (R162): from SERVING the station is OPEN and serves, from CLOSING it is CLOSED. Serving takes records from the head
until one breaks down to some notes, which are dispensed, the shortfall credited; a record that breaks down to nothing is credited whole (R138,
R154, R156). The premises keep the tally within its stated range. Parked drops are offered room at the end of the event, after the notices of the
next record served too, where R162 orders them after those of the final record only (the model's reading, log 17). -/
def Obligations.OutcomeRules : Prop :=
  (∀ (s : State) (x : StationId) (d : Dispense) (notes : Four Nat) (r : SettleRec) (since : Nat), s.rstHeld = false → s.parkOrder = [] →
     (s.station x).link = .up since → (s.station x).state = .serving d → d.step = .outcome notes → (s.station x).queue = [] →
     s.recordAt d.slot = some r →
     ∃ u, exec (.taken x) s = .next u ∧ (u.station x).state = .opened ∧ u.finalOrder = s.finalOrder ++ [d.slot] ∧
       u.recordAt d.slot = some { r with
         cashPaid := r.cashPaid + r.outstanding, outstanding := 0, state := .paid, finalStamp := some s.host.clock } ∧
       u.station x = { s.station x with state := .opened, link := .up s.now, rx := .hunting }) ∧
  (∀ (s : State) (x : StationId) (d : Dispense) (notes : Four Nat) (r : SettleRec) (since : Nat), s.rstHeld = false → s.parkOrder = [] →
     (s.station x).link = .up since → (s.station x).state = .closing d → d.step = .outcome notes → s.recordAt d.slot = some r →
     ∃ u, exec (.taken x) s = .next u ∧ (u.station x).state = .closed ∧ u.finalOrder = s.finalOrder ++ [d.slot] ∧
       u.recordAt d.slot = some { r with
         cashPaid := r.cashPaid + r.outstanding, outstanding := 0, state := .paid, finalStamp := some s.host.clock } ∧
       u.station x = { s.station x with state := .closed, link := .up s.now, rx := .hunting }) ∧
  (∀ (s : State) (x : StationId) (d : Dispense) (notes : Four Nat) (r : SettleRec) (since : Nat), s.rstHeld = false → s.parkOrder = [] →
     (s.station x).link = .up since → (s.station x).state = .serving d → d.step = .outcome notes → (s.station x).queue = [] →
     s.recordAt d.slot = some r → r.station = some x → 0 < r.outstanding →
     (s.station x).retractValue + r.outstanding ≤ 281474976710655 →
     (s.station x).retractNotes + noteCount notes ≤ 4294967295 →
     ∃ u, exec (.retracted x) s = .next u ∧
       u.station x = { s.station x with
         state := .opened, link := .up s.now, rx := .hunting, retractValue := (s.station x).retractValue + r.outstanding,
         retractNotes := (s.station x).retractNotes + noteCount notes } ∧
       (r.retracts = 0 → u.recordAt d.slot = some { r with
         retracts := 1, state := .awaiting (s.now + (s.station x).claimPeriod * 1000) }) ∧
       (0 < r.retracts → u.recordAt d.slot = some { r with
         retracts := r.retracts + 1, outstanding := 0, creditIssued := r.creditIssued + r.outstanding, state := .credited,
         finalStamp := some s.host.clock })) ∧
  (∀ (s : State) (x : StationId) (d : Dispense) (notes : Four Nat) (r : SettleRec) (since : Nat), s.rstHeld = false →
     (s.station x).link = .up since → ((s.station x).state = .serving d ∨ (s.station x).state = .closing d) → d.step = .outcome notes →
     s.recordAt d.slot = some r →
     let linked := s.modStation x (fun u => { u with link := .up s.now, rx := .hunting })
     exec (.taken x) s = .next (finish (((({ linked with
       store := assocSet s.store d.slot { r with
         cashPaid := r.cashPaid + r.outstanding, outstanding := 0, state := .paid, finalStamp := some s.host.clock },
       finalOrder := s.finalOrder ++ [d.slot] }.post
         (.payout r.drop.number r.drop.account x (r.cashPaid + r.outstanding) notes
           ((s.station x).cassettes.map Cassette.denomination) r.creditIssued)).endDispense x).enterParked))) ∧
     (r.station = some x → (s.station x).retractValue + r.outstanding ≤ 281474976710655 →
       (s.station x).retractNotes + noteCount notes ≤ 4294967295 →
       let drawn := linked.modStation x (fun u => { u with
         retractValue := u.retractValue + r.outstanding, retractNotes := u.retractNotes + noteCount notes })
       (r.retracts = 0 → exec (.retracted x) s = .next (finish ((({ drawn with store := assocSet s.store d.slot { r with
         retracts := 1, state := .awaiting (s.now + (s.station x).claimPeriod * 1000) } }.endDispense x).enterParked)))) ∧
       (0 < r.retracts → exec (.retracted x) s = .next (finish
         (((drawn.creditMove d.slot { r with retracts := r.retracts + 1 } r.outstanding .retract).endDispense x).enterParked))))) ∧
  (∀ (s : State) (x : StationId),
     (∀ d, (s.station x).state = .serving d →
       s.endDispense x = (s.modStation x (fun u => { u with state := .opened })).serve x) ∧
     (∀ d, (s.station x).state = .closing d → s.endDispense x = (s.modStation x (fun u => { u with state := .closed })).post
       (.stationChange x .closed (s.station x).link.isUp .request)) ∧
     ((s.station x).state ≠ .opened → s.serve x = s) ∧ ((s.station x).queue = [] → s.serve x = s) ∧
     (∀ k rest r, (s.station x).state = .opened → (s.station x).queue = k :: rest → s.recordAt k = some r →
       let notes := breakdown (s.station x).cassettes r.outstanding
       let value := valueOf (s.station x).cassettes notes
       let taken := s.modStation x (fun u => { u with queue := rest })
       (value = 0 → s.serve x = (taken.creditMove k r r.outstanding .shortfall).serve x) ∧
       (0 < value →
         let paid := if value < r.outstanding
           then taken.creditMove k { r with state := .dispensing } (r.outstanding - value) .shortfall
           else taken.setRecord k { r with state := .dispensing }
         s.serve x = paid.modStation x (fun u => { u with
           sent := u.sent ++ [.dispense r.drop.number notes (s.station x).takePeriod],
           state := .serving ⟨k, notes, value, (s.station x).takePeriod, .pick, s.now + 10000⟩ }))))

/-- A dispense that fails at a SERVING or CLOSING station (R141, R161). Each event with its cause, after the link is taken (R145, R146): a dispenser
FAULT its code, the step timer TIMEOUT with its step, the loss of the link LINK, and a frame its step does not expect SEQUENCE; parked drops are
offered room at the end of the event (the model's reading, log 17). What failing leaves: the last fault is a code's, else as before; before the pick
the record waits for a claim again with its money unchanged; after it its outstanding cash is unresolved for good, reported as UNRESOLVED with the
step and cause. The station is in FAULT, reported with the cause, and the records of its queue wait for a claim again (R142). -/
def Obligations.DispenseFailure : Prop :=
  (∀ (s : State) (x : StationId) (d : Dispense), s.rstHeld = false →
     ((s.station x).state = .serving d ∨ (s.station x).state = .closing d) →
     let linked : State := match (s.station x).link with
       | .up _ => s.modStation x (fun u => { u with link := .up s.now, rx := .hunting })
       | .lost => (s.modStation x (fun u => { u with link := .up s.now, rx := .hunting })).post
           (.stationChange x (s.station x).state.tag true .linkBack)
     let picked : Option (Four Nat) := match d.step with | .pick => none | .present n => some n | .outcome n => some n
     let fails (event : Instr) (u : State) (cause : StationCause) : Prop :=
       exec event s = .next (finish ((u.failDispense x d picked cause).enterParked))
     (∀ code, 1 ≤ code → code ≤ 255 → fails (.dispenserFault x code) linked (.code code)) ∧
     (d.timeout ≤ s.now → fails (.dispenseStepTimeout x) s (.timeout d.step.tag)) ∧
     (∀ since, (s.station x).link = .up since → since + 3000 ≤ s.now →
       fails (.stationLinkSilence x) (s.modStation x (fun u => { u with link := .lost })) .link) ∧
     (d.step ≠ .pick → ∀ p : Four Nat, (∀ n ∈ p.toList, n ≤ 255) → fails (.picked x p.c1 p.c2 p.c3 p.c4) linked .sequence) ∧
     ((∀ n, d.step ≠ .present n) → fails (.presented x) linked .sequence) ∧
     ((∀ n, d.step ≠ .outcome n) → fails (.taken x) linked .sequence ∧ fails (.retracted x) linked .sequence)) ∧
  (∀ (s : State) (x : StationId) (d : Dispense) (r : SettleRec) (cause : StationCause), s.recordAt d.slot = some r →
     let fault (u : State) : State :=
       (s.station x).queue.foldl State.returnRecord ((u.modStation x (fun v => { v with
         state := .fault, queue := [], lastFault := match cause with | .code n => n | _ => v.lastFault })).post
           (.stationChange x .fault (s.station x).link.isUp cause))
     (r.station = some x → s.failDispense x d none cause = fault (s.setRecord d.slot { r with
       state := .awaiting (s.now + (s.station x).claimPeriod * 1000) })) ∧
     (∀ notes, s.failDispense x d (some notes) cause = fault ({ s with
       store := assocSet s.store d.slot { r with
         unresolvedAmount := r.unresolvedAmount + r.outstanding, outstanding := 0, state := .unresolved,
         finalStamp := some s.host.clock },
       finalOrder := s.finalOrder ++ [d.slot] }.post (.unresolved r.drop.number r.drop.account x
         (r.unresolvedAmount + r.outstanding) (some notes) d.step.tag cause)))) ∧
  (∀ (s : State) (x : StationId) (d : Dispense) (r : SettleRec) (picked : Option (Four Nat)) (cause : StationCause),
     s.recordAt d.slot = some r → r.station = some x → d.slot ∉ (s.station x).queue →
     let u := s.failDispense x d picked cause
     u.station x = { s.station x with
       state := .fault, queue := [], lastFault := match cause with | .code n => n | _ => (s.station x).lastFault } ∧
     (picked = none → u.finalOrder = s.finalOrder ∧ u.recordAt d.slot = some { r with
       state := .awaiting (s.now + (s.station x).claimPeriod * 1000) }) ∧
     (∀ notes, picked = some notes → u.finalOrder = s.finalOrder ++ [d.slot] ∧ u.recordAt d.slot = some { r with
       unresolvedAmount := r.unresolvedAmount + r.outstanding, outstanding := 0, state := .unresolved,
       finalStamp := some s.host.clock }) ∧
     (∀ k r', k ∈ (s.station x).queue → s.recordAt k = some r' → r'.station = some x →
       u.recordAt k = some { r' with state := .awaiting (s.now + (s.station x).claimPeriod * 1000) }) ∧
     (∀ k, k ≠ d.slot → k ∉ (s.station x).queue → u.recordAt k = s.recordAt k))

/-! ## LANE requests -/

/-- LANE.ON on a lane that is OFF (R38), LANE.OFF on an IDLE lane (R39): a waiting item is handed on as a stray, a held code is discarded as a stray
read, each item in the gate is abandoned with its entry and count (R17, R30; in EXIT_ENTER the older first, log 15, and a reversing item's LONG flag
clear, log 27, the model's choices), and the lane goes out of service. LANE.SET with every field in range on a lane that is OFF (R40). Elsewhere
each is refused with STATE. -/
def Obligations.LaneSwitching : Prop :=
  (∀ (s : State) (tag : Byte) (i : LaneIdx), s.ready →
     ((s.lane i).state = .off → exec (.laneOn tag (i.val + 1)) s = .next (finish ((s.modLane i (fun l => { l with
       inService := true, occupancy := 0, peak := 0, latch := false, window := [], degraded := false, rejects := [], gate := .idle,
       stuckA := if l.beamA.settled then some s.now else none, stuckB := if l.beamB.settled then some s.now else none,
       early := none, measure := none, grace := none, waiting := none, head := .present s.now })).replied 0x10 tag .ok .none))) ∧
     ((s.lane i).state ≠ .off → exec (.laneOn tag (i.val + 1)) s = .next (finish (s.replied 0x10 tag .state .none))) ∧
     (∀ n, n < 1 ∨ 6 < n → exec (.laneOn tag n) s = .next (finish (s.replied 0x10 tag .range .none)))) ∧
  (∀ (s : State) (tag : Byte) (i : LaneIdx), s.ready →
     ((s.lane i).state = .idle → (s.lane i).waiting = none → (s.lane i).gate.abandoned s.now = [] →
       exec (.laneOff tag (i.val + 1)) s = .next (finish ((s.modLane i (fun l => { l with
         inService := false, gate := .reset, stuckA := none, stuckB := none, lastABlock := none, measure := none, grace := none,
         head := .off, lastFault := 0, latch := false, window := [], degraded := false, rejects := [], early := none,
         counters := if l.early = none then l.counters else l.counters.raise .strayReads })).replied 0x11 tag .ok .none))) ∧
     ((s.lane i).state = .idle →
       let discarded := (s.handOverWaiting i).modLane i (fun l => { l with
         early := none, counters := if l.early = none then l.counters else l.counters.raise .strayReads })
       let abandoned := discarded.abandoning i (abandonedEntries (s.lane i).gate s.now)
       exec (.laneOff tag (i.val + 1)) s = .next (finish ((abandoned.modLane i (fun l => { l with
         inService := false, gate := .reset, stuckA := none, stuckB := none, lastABlock := none, measure := none, grace := none,
         head := .off, lastFault := 0, latch := false, window := [], degraded := false, rejects := [] })).replied 0x11 tag .ok .none))) ∧
     ((s.lane i).state ≠ .idle → exec (.laneOff tag (i.val + 1)) s = .next (finish (s.replied 0x11 tag .state .none)))) ∧
  (∀ (s : State) (tag : Byte) (i : LaneIdx) (args : LaneConfigArgs) (cfg : LaneConfig), s.ready → laneConfigOf args = some cfg →
     ((s.lane i).state = .off → exec (.laneSet tag (i.val + 1) args) s =
       .next (finish ((s.modLane i (fun l => { l with cfg := cfg })).replied 0x12 tag .ok .none))) ∧
     ((s.lane i).state ≠ .off → exec (.laneSet tag (i.val + 1) args) s = .next (finish (s.replied 0x12 tag .state .none))))

/-- LANE.GET shows the lane as it stood, field by field (R16, R34, R42), clear-peak then lowering the peak (R47); LANE.COUNTERS clears what it reads
(R172). LANE.JOURNAL returns, of the entries from the first sequence on, oldest first and up to the count, as many whole entries as the reply has
room for (R170, R185; 211 bytes, the model's layout of the fields before them, log 18), moves the read mark to the last one and arms the alarms. -/
def Obligations.LaneReads : Prop :=
  (∀ (s : State) (tag : Byte) (i : LaneIdx), s.ready →
     let l := s.lane i
     let view : LaneView :=
       { state := l.state, drop := l.drop.map (fun d => d.record.number), cfg := l.cfg,
         gate := match l.gate with
           | .idle => 0 | .enter _ => 1 | .span _ => 2 | .exit _ => 3 | .exitEnter _ _ => 4 | .back _ => 5 | .backSpan _ => 6
           | .backExit _ => 7 | .fault _ _ => 8 | .reset => 9,
         faultBeams := match l.gate with | .fault beams _ => some beams | _ => none,
         blockedA := l.beamA.settled, blockedB := l.beamB.settled,
         head := match l.head with | .off => 0 | .present _ => 1 | .lost => 2,
         lastFault := l.lastFault, measure := l.measure.map (fun m => (m.value, s.now - m.arrival)),
         early := l.early.map (fun h => h.code),
         windowCode := match l.gate with
           | .enter it => some it.code | .span it => some it.code | .exitEnter _ e => some e.code | _ => none,
         graceRuns := l.grace.isSome, waits := l.waiting.isSome, occupancy := l.occupancy, peak := l.peak, latch := l.latch,
         pacing := l.pacing, degraded := l.degraded, windowItems := l.window.length, windowBad := (l.window.filter id).length,
         rejects := l.rejects.length, newestReject := l.rejects.head?.map (fun e => s.now - e.completed) }
     exec (.laneGet tag (i.val + 1) false) s = .next (finish (s.replied 0x13 tag .ok (.lane view))) ∧
     exec (.laneGet tag (i.val + 1) true) s = .next (finish ((s.modLane i (fun l => { l with peak := l.occupancy })).replied
       0x13 tag .ok (.lane view))) ∧
     exec (.laneCounters tag (i.val + 1)) s = .next (finish ((s.modLane i (fun l => { l with counters := .zero })).replied
       0x15 tag .ok (.counters (s.lane i).counters)))) ∧
  (∀ (s : State) (tag : Byte) (i : LaneIdx) (first count : Nat), s.ready → 1 ≤ count → count ≤ 6 → 1 ≤ first →
     first ≤ 281474976710655 →
     let j := (s.lane i).journal
     let asked := (j.entries.filter (fun e => decide (first ≤ e.seq))).take count
     let size (es : List JournalEntry) : Nat := (es.map (fun e => e.bytes.length)).sum
     let oldest := (j.entries.head?.map JournalEntry.seq).getD 0
     let newest := (j.entries.getLast?.map JournalEntry.seq).getD 0
     ∃ j' es, exec (.laneJournal tag (i.val + 1) first count) s =
         .next (finish ((s.modLane i (fun l => { l with journal := j' })).replied 0x14 tag .ok
           (.journal es oldest newest j'.readMark (if j.entries = [] then 0 else newest - j'.readMark)))) ∧
       es <+: asked ∧ size es ≤ 211 ∧ (∀ e, es ++ [e] <+: asked → 211 < size (es ++ [e])) ∧
       j'.entries = j.entries ∧ j'.nextSeq = j.nextSeq ∧
       j'.readMark = (match es.getLast? with | some e => e.seq | none => j.readMark) ∧
       j'.wrapArmed = true ∧
       j'.halfArmed = (j.halfArmed || decide ((if j.entries = [] then 0 else newest - j'.readMark) < 64)))

/-- A request that names no lane, station, index, key or number, or carries a value outside its stated range, is refused with RANGE and changes
nothing; where a rule gives no order to its refusals, RANGE comes first (the model's reading, log 14), but for LANE.SET on a lane that is not OFF,
which may be answered STATE as well (log 13). The gets of chapters 4, 5 and 7 carry their counts all the same. -/
def Obligations.OutOfRangeRefused : Prop :=
  ∀ (s : State) (tag : Byte), s.ready →
    let refused (c : Instr) (kind : Byte) (counts : Result) : Prop := exec c s = .next (finish (s.replied kind tag .range counts))
    (∀ n, (n < 1 ∨ 6 < n) →
      refused (.laneOn tag n) 0x10 .none ∧ refused (.laneOff tag n) 0x11 .none ∧ (∀ c, refused (.laneSet tag n c) 0x12 .none) ∧
      (∀ b, refused (.laneGet tag n b) 0x13 .none) ∧ (∀ f c, refused (.laneJournal tag n f c) 0x14 .none) ∧
      refused (.laneCounters tag n) 0x15 .none ∧ (∀ a d ds, refused (.dropOpen tag n a d ds) 0x48 .none) ∧
      (∀ p, refused (.dropGet tag (.lane n) p) 0x4D .none)) ∧
    (∀ (i : LaneIdx) (c : LaneConfigArgs),
      (1 < c.kind ∨ 2 < c.binding ∨ 2 < c.capacity ∨ c.longLimit < 500 ∨ 10000 < c.longLimit ∨ c.stuckLimit < 5 ∨ 120 < c.stuckLimit ∨
       1000 < c.earlyHold ∨ 500 < c.lateGrace ∨ c.measureAge < 100 ∨ 2000 < c.measureAge ∨ c.rejectWindow < 1000 ∨
       30000 < c.rejectWindow ∨ c.drainQuiet < 500 ∨ 20000 < c.drainQuiet ∨ c.drainLimit < 5 ∨ 600 < c.drainLimit ∨
       3 < c.readWindow ∨ c.declareCount = 0 ∨ 16 * 2 ^ c.readWindow < c.declareCount ∨ c.clearRun = 0 ∨
       16 * 2 ^ c.readWindow < c.clearRun) →
      ((s.lane i).state = .off → refused (.laneSet tag (i.val + 1) c) 0x12 .none) ∧
      ((s.lane i).state ≠ .off → refused (.laneSet tag (i.val + 1) c) 0x12 .none ∨
        exec (.laneSet tag (i.val + 1) c) s = .next (finish (s.replied 0x12 tag .state .none)))) ∧
    (∀ (i : LaneIdx) (f c : Nat), (c = 0 ∨ 6 < c ∨ f = 0 ∨ 281474976710655 < f) →
      refused (.laneJournal tag (i.val + 1) f c) 0x14 .none) ∧
    (∀ n, 1 < n →
      refused (.stationOpen tag n) 0x58 .none ∧ refused (.stationClose tag n) 0x59 .none ∧ refused (.stationGet tag n) 0x5B .none ∧
      (∀ cs cp tp b, refused (.stationLoad tag n cs cp tp b) 0x5A .none)) ∧
    (∀ (n : Nat) (cs : Four CassetteArgs) (cp tp : Nat) (b : Bool),
      (cp < 60 ∨ 86400 < cp ∨ tp < 10 ∨ 120 < tp ∨ ∃ c ∈ cs.toList,
        100000 < c.denomination ∨ 2000 < c.count ∨ 2000 < c.threshold ∨ (c.denomination = 0 ∧ 0 < c.count)) →
      refused (.stationLoad tag n cs cp tp b) 0x5A .none) ∧
    (∀ n, 63 < n → refused (.classRemove tag n) 0x21 .none ∧ (∀ e, refused (.classPut tag n e) 0x20 .none) ∧
      refused (.classGet tag n) 0x22 (.classEntry none s.tables.classes.length)) ∧
    (∀ (n : Nat) (e : ClassArgs),
      (4095 < e.owner ∨ 255 < e.type ∨ 999999 < e.deposit ∨ 1 < e.kind ∨
       (e.kind = 0 ∧ (e.keg ≠ none ∨ ∀ limit, e.crate = some limit → limit < 1 ∨ 12 < limit)) ∨
       (e.kind = 1 ∧ (e.crate ≠ none ∨ ∀ k, e.keg = some k → 2000 < k.tare ∨ k.ullage < 1 ∨ 2000 < k.ullage ∨ k.full < 1 ∨
         2000 < k.full ∨ 999999 < k.charge ∨ k.full < k.ullage ∨ 2000 < k.tare + k.full))) →
      refused (.classPut tag n e) 0x20 .none) ∧
    (∀ o n, (4095 < o ∨ n = 0 ∨ 1048575 < n) → (∀ m, refused (.markPut tag o n m) 0x28 .none) ∧
      refused (.markRemove tag (.key o n)) 0x29 .none ∧
      refused (.markGet tag (.key o n)) 0x2A (.markEntry none s.tables.marks.length)) ∧
    (∀ o n m, 1 < m → refused (.markPut tag o n m) 0x28 .none) ∧
    (∀ k, 127 < k → refused (.markRemove tag (.slot k)) 0x29 .none ∧
      refused (.markGet tag (.slot k)) 0x2A (.markEntry none s.tables.marks.length)) ∧
    (∀ n, 15 < n → (∀ a os, refused (.poolPut tag n a os) 0x30 .none) ∧ refused (.poolRemove tag n) 0x31 .none ∧
      refused (.poolGet tag n) 0x32 .none) ∧
    (∀ (n : Nat) (a : BitVec 64) (os : List Override),
      (8 < os.length ∨ ¬ (os.map Override.cls).Nodup ∨ ∃ o ∈ os, 63 < o.cls ∨ 999999 < o.deposit ∨ a.getLsbD o.cls = false) →
      refused (.poolPut tag n a os) 0x30 .none) ∧
    (∀ n, (n = 0 ∨ 65535 < n) → (∀ a, refused (.accountPut tag n a) 0x38 .none) ∧ refused (.accountRemove tag (.number n)) 0x39 .none ∧
      refused (.accountGet tag (.number n)) 0x3A (.accountEntry none s.tables.accounts.length)) ∧
    (∀ (n : Nat) (a : AccountArgs),
      (15 < a.pool ∨ 2 < a.mode ∨ 99999999 < a.cashLimit ∨ 255 < a.tolerance ∨ 281474976710655 < a.holdAbove ∨ 1 < a.state) →
      refused (.accountPut tag n a) 0x38 .none) ∧
    (∀ k, 255 < k → refused (.accountRemove tag (.slot k)) 0x39 .none ∧
      refused (.accountGet tag (.slot k)) 0x3A (.accountEntry none s.tables.accounts.length)) ∧
    (∀ n, (n < 600 ∨ 86400 < n) → refused (.sightHold tag n) 0x40 .none) ∧
    (∀ (n a : Nat) (d : List Byte) (ds : List Declaration),
      (a = 0 ∨ 65535 < a ∨ 16 < d.length ∨ (∃ c ∈ d, c.toNat < 32 ∨ 126 < c.toNat) ∨ 8 < ds.length ∨
       ¬ (ds.map Declaration.cls).Nodup ∨ ∃ e ∈ ds, 63 < e.cls ∨ 999999 < e.units) →
      refused (.dropOpen tag n a d ds) 0x48 .none) ∧
    (∀ x first, 31 < first → refused (.dropGet tag x (.lines first)) 0x4D .none) ∧
    (refused (.dropClose tag 0) 0x49 .none ∧ (∀ b, refused (.dropApprove tag 0 b) 0x4B .none) ∧ refused (.dropAbandon tag 0) 0x4C .none ∧
      (∀ p, refused (.dropGet tag (.number 0) p) 0x4D .none) ∧ refused (.recordCredit tag 0) 0x50 .none ∧
      refused (.recordClear tag (.number 0)) 0x51 .none ∧
      (∀ k, 31 < k → refused (.recordGet tag (.slot k)) 0x52
        (.record none s.store.length s.finalOrder.length s.parkOrder.length)) ∧
      refused (.recordGet tag (.number 0)) 0x52 (.record none s.store.length s.finalOrder.length s.parkOrder.length))

/-! ## Tables -/

/-- Examination of the four tables (R58, R59): a USABLE entry whose check disagrees becomes UNUSABLE, with one TABLE_FAULT and one count, and every
other entry stays. A search by key examines the whole table, one by index or slot that entry alone. A check disagrees when the contents are not
those it was computed from, and one examination goes by rising index (the model's choices, logs 10 and 11). A search finds usable entries alone. -/
def Obligations.ExaminationRule : Prop :=
  (∀ s : State,
     (s.examineClasses.tables = { s.tables with classes := checkedTable s.tables.classes } ∧
       s.faultsReported s.examineClasses .cls (brokenEntries s.tables.classes)) ∧
     (s.examineMarks.tables = { s.tables with marks := checkedTable s.tables.marks } ∧
       s.faultsReported s.examineMarks .mark (brokenEntries s.tables.marks)) ∧
     (s.examineAccounts.tables = { s.tables with accounts := checkedTable s.tables.accounts } ∧
       s.faultsReported s.examineAccounts .account (brokenEntries s.tables.accounts))) ∧
  (∀ (s : State) (k : Nat),
     ((∀ c w, assocGet s.tables.classes k = some (.usable c w) → c ≠ w →
         (s.examineClassAt k).tables = { s.tables with classes := assocSet s.tables.classes k .unusable } ∧
         s.faultsReported (s.examineClassAt k) .cls [k]) ∧
       ((∀ c w, assocGet s.tables.classes k = some (.usable c w) → c = w) → s.examineClassAt k = s)) ∧
     ((∀ c w, assocGet s.tables.marks k = some (.usable c w) → c ≠ w →
         (s.examineMarkAt k).tables = { s.tables with marks := assocSet s.tables.marks k .unusable } ∧
         s.faultsReported (s.examineMarkAt k) .mark [k]) ∧
       ((∀ c w, assocGet s.tables.marks k = some (.usable c w) → c = w) → s.examineMarkAt k = s)) ∧
     ((∀ c w, assocGet s.tables.pools k = some (.usable c w) → c ≠ w →
         (s.examinePoolAt k).tables = { s.tables with pools := assocSet s.tables.pools k .unusable } ∧
         s.faultsReported (s.examinePoolAt k) .pool [k]) ∧
       ((∀ c w, assocGet s.tables.pools k = some (.usable c w) → c = w) → s.examinePoolAt k = s)) ∧
     ((∀ c w, assocGet s.tables.accounts k = some (.usable c w) → c ≠ w →
         (s.examineAccountAt k).tables = { s.tables with accounts := assocSet s.tables.accounts k .unusable } ∧
         s.faultsReported (s.examineAccountAt k) .account [k]) ∧
       ((∀ c w, assocGet s.tables.accounts k = some (.usable c w) → c = w) → s.examineAccountAt k = s))) ∧
  (∀ (s : State) (o n : Nat),
     (∀ k e, s.classOf o n = some (k, e) → (∃ w, (k, .usable e w) ∈ s.tables.classes) ∧ e.owner = o ∧ e.type = n) ∧
     (s.classOf o n = none → ∀ k e w, (k, .usable e w) ∈ s.tables.classes → e.owner ≠ o ∨ e.type ≠ n) ∧
     (∀ k e, s.markAt o n = some (k, e) → (∃ w, (k, .usable e w) ∈ s.tables.marks) ∧ e.owner = o ∧ e.serial = n) ∧
     (s.markAt o n = none → ∀ k e w, (k, .usable e w) ∈ s.tables.marks → e.owner ≠ o ∨ e.serial ≠ n) ∧
     (∀ k e, s.accountOf n = some (k, e) → (∃ w, (k, .usable e w) ∈ s.tables.accounts) ∧ e.number = n) ∧
     (s.accountOf n = none → ∀ k e w, (k, .usable e w) ∈ s.tables.accounts → e.number ≠ n) ∧
     s.poolAt n = (match assocGet s.tables.pools n with
       | some (.usable p _) => some p
       | _ => none))

/-- CLASS.PUT, CLASS.REMOVE and CLASS.GET in range (R61 to R63); MARK.PUT, MARK.REMOVE and MARK.GET by key and by slot (R65, R66). A new mark takes
the lowest EMPTY slot, with none the lowest UNUSABLE one, with none FULL. A get of an entry whose check disagrees reports it UNUSABLE, and an EMPTY
one or a key that matches none is ABSENT, with the count. CLASS.REMOVE and MARK.REMOVE by slot remove an entry without examining it (the model's
reading, log 26). -/
def Obligations.ClassAndMarkRequests : Prop :=
  (∀ (s : State) (tag : Byte) (n : Nat), s.ready → n ≤ 63 →
     (∀ args e, classEntryOf args = some e →
       findKey (fun o => decide (o.owner = e.owner) && decide (o.type = e.type))
         (assocErase s.examineClasses.tables.classes n) = none →
       exec (.classPut tag n args) s = .next (finish ((s.examineClasses.setClasses
         (assocSet s.examineClasses.tables.classes n (.usable e e))).replied 0x20 tag .ok .none))) ∧
     (∀ args e p, classEntryOf args = some e →
       findKey (fun o => decide (o.owner = e.owner) && decide (o.type = e.type))
         (assocErase s.examineClasses.tables.classes n) = some p →
       exec (.classPut tag n args) s = .next (finish (s.examineClasses.replied 0x20 tag .duplicate .none))) ∧
     (∀ e, assocGet s.tables.classes n = some e → exec (.classRemove tag n) s =
       .next (finish ((s.setClasses (assocErase s.tables.classes n)).replied 0x21 tag .ok .none))) ∧
     (assocGet s.tables.classes n = none → exec (.classRemove tag n) s = .next (finish (s.replied 0x21 tag .absent .none))) ∧
     (∀ e, assocGet s.tables.classes n = some (.usable e e) → exec (.classGet tag n) s =
       .next (finish (s.replied 0x22 tag .ok (.classEntry (some (.usable e)) s.tables.classes.length)))) ∧
     (assocGet s.tables.classes n = some .unusable → exec (.classGet tag n) s =
       .next (finish (s.replied 0x22 tag .ok (.classEntry (some .unusable) s.tables.classes.length)))) ∧
     (∀ c w, assocGet s.tables.classes n = some (.usable c w) → c ≠ w → exec (.classGet tag n) s =
       .next (finish ((s.examineClassAt n).replied 0x22 tag .ok (.classEntry (some .unusable) s.tables.classes.length)))) ∧
     (assocGet s.tables.classes n = none → exec (.classGet tag n) s =
       .next (finish (s.replied 0x22 tag .absent (.classEntry none s.tables.classes.length))))) ∧
  (∀ (s : State) (tag : Byte) (o n : Nat), s.ready → o ≤ 4095 → 1 ≤ n → n ≤ 1048575 →
     let t := s.examineMarks
     let put (code : Nat) (mark : Mark) (k : Nat) : Prop := exec (.markPut tag o n code) s = .next (finish
       ((t.setMarks (assocSet t.tables.marks k (.usable ⟨o, n, mark⟩ ⟨o, n, mark⟩))).replied 0x28 tag .ok (.slot k)))
     (∀ k e, t.markAt o n = some (k, e) →
       put 0 .barred k ∧ put 1 .inspect k ∧
       exec (.markRemove tag (.key o n)) s = .next (finish ((t.setMarks (assocErase t.tables.marks k)).replied 0x29 tag .ok .none)) ∧
       exec (.markGet tag (.key o n)) s =
         .next (finish (t.replied 0x2A tag .ok (.markEntry (some (k, .usable e)) s.tables.marks.length)))) ∧
     (t.markAt o n = none →
       (∀ k, lowestFree 128 t.tables.marks = some k → put 0 .barred k ∧ put 1 .inspect k) ∧
       (lowestFree 128 t.tables.marks = none →
         (∀ k, lowestUnusable 128 t.tables.marks = some k → put 0 .barred k ∧ put 1 .inspect k) ∧
         (lowestUnusable 128 t.tables.marks = none → ∀ code, code ≤ 1 →
           exec (.markPut tag o n code) s = .next (finish (t.replied 0x28 tag .full .none)))) ∧
       exec (.markRemove tag (.key o n)) s = .next (finish (t.replied 0x29 tag .absent .none)) ∧
       exec (.markGet tag (.key o n)) s = .next (finish (t.replied 0x2A tag .absent (.markEntry none s.tables.marks.length))))) ∧
  (∀ (s : State) (tag : Byte) (k : Nat), s.ready → k ≤ 127 →
     let got (u : State) (r : Report MarkEntry) : Prop := exec (.markGet tag (.slot k)) s =
       .next (finish (u.replied 0x2A tag .ok (.markEntry (some (k, r)) s.tables.marks.length)))
     (∀ e, assocGet s.tables.marks k = some e → exec (.markRemove tag (.slot k)) s =
       .next (finish ((s.setMarks (assocErase s.tables.marks k)).replied 0x29 tag .ok .none))) ∧
     (∀ e, assocGet s.tables.marks k = some (.usable e e) → got s (.usable e)) ∧
     (∀ c w, assocGet s.tables.marks k = some (.usable c w) → c ≠ w → got (s.examineMarkAt k) .unusable) ∧
     (assocGet s.tables.marks k = some .unusable → got s .unusable) ∧
     (assocGet s.tables.marks k = none →
       exec (.markRemove tag (.slot k)) s = .next (finish (s.replied 0x29 tag .absent .none)) ∧
       exec (.markGet tag (.slot k)) s = .next (finish (s.replied 0x2A tag .absent (.markEntry none s.tables.marks.length))))) ∧
  (∀ (α : Type) (t : Table α) (n k : Nat),
     (lowestFree n t = some k ↔ k < n ∧ assocGet t k = none ∧ ∀ j, j < k → assocGet t j ≠ none) ∧
     (lowestFree n t = none ↔ ∀ j, j < n → assocGet t j ≠ none) ∧
     (lowestUnusable n t = some k ↔ k < n ∧ assocGet t k = some .unusable ∧ ∀ j, j < k → assocGet t j ≠ some .unusable) ∧
     (lowestUnusable n t = none ↔ ∀ j, j < n → assocGet t j ≠ some .unusable))

/-- POOL.PUT, POOL.REMOVE and POOL.GET in range (R67, R68); ACCOUNT.PUT, ACCOUNT.REMOVE and ACCOUNT.GET by number and by slot (R69, R70).
ACCOUNT.PUT under a pool that is not valid is ABSENT; an account that exists keeps its slot; a new one takes the lowest EMPTY slot, with none the
lowest UNUSABLE one, with none FULL. A removal is refused with IN_USE while a lane drop or a record that is not final names the account, except of
an UNUSABLE slot. POOL.REMOVE does not examine the entry it removes, and ACCOUNT.REMOVE by slot does (the model's reading, log 26); of an EMPTY pool
that accounts name POOL.REMOVE is ABSENT (the model's reading, log 14). -/
def Obligations.PoolAndAccountRequests : Prop :=
  (∀ (s : State) (tag : Byte) (n : Nat), s.ready → n ≤ 15 →
     (∀ accepted overrides, poolInRange accepted overrides = true → exec (.poolPut tag n accepted overrides) s =
       .next (finish ((s.setPools (assocSet s.tables.pools n (.usable ⟨accepted, overrides⟩ ⟨accepted, overrides⟩))).replied
         0x30 tag .ok .none))) ∧
     (∀ e, assocGet s.tables.pools n = some e →
       (findKey (fun a => decide (a.pool = n)) s.examineAccounts.tables.accounts = none → exec (.poolRemove tag n) s =
         .next (finish ((s.examineAccounts.setPools (assocErase s.examineAccounts.tables.pools n)).replied 0x31 tag .ok .none))) ∧
       (∀ p, findKey (fun a => decide (a.pool = n)) s.examineAccounts.tables.accounts = some p → exec (.poolRemove tag n) s =
         .next (finish (s.examineAccounts.replied 0x31 tag .inUse .none)))) ∧
     (∀ e, assocGet s.tables.pools n = some (.usable e e) → exec (.poolGet tag n) s =
       .next (finish (s.replied 0x32 tag .ok (.poolEntry (.usable e))))) ∧
     (assocGet s.tables.pools n = some .unusable → exec (.poolGet tag n) s =
       .next (finish (s.replied 0x32 tag .ok (.poolEntry .unusable)))) ∧
     (∀ c w, assocGet s.tables.pools n = some (.usable c w) → c ≠ w → exec (.poolGet tag n) s =
       .next (finish ((s.examinePoolAt n).replied 0x32 tag .ok (.poolEntry .unusable)))) ∧
     (assocGet s.tables.pools n = none →
       exec (.poolRemove tag n) s = .next (finish (s.replied 0x31 tag .absent .none)) ∧
       exec (.poolGet tag n) s = .next (finish (s.replied 0x32 tag .absent .none)))) ∧
  (∀ (s : State) (tag : Byte) (n : Nat), s.ready → 1 ≤ n → n ≤ 65535 →
     (∀ args e, accountEntryOf n args = some e →
       let s1 := s.examinePoolAt e.pool
       let t := s1.examineAccounts
       let put (k : Nat) : Prop := exec (.accountPut tag n args) s = .next (finish
         ((t.setAccounts (assocSet t.tables.accounts k (.usable e e))).replied 0x38 tag .ok (.slot k)))
       (s1.poolAt e.pool = none → exec (.accountPut tag n args) s = .next (finish (s1.replied 0x38 tag .absent .none))) ∧
       (∀ p, s1.poolAt e.pool = some p →
         (∀ k a, t.accountOf n = some (k, a) → put k) ∧
         (t.accountOf n = none →
           (∀ k, lowestFree 256 t.tables.accounts = some k → put k) ∧
           (lowestFree 256 t.tables.accounts = none →
             (∀ k, lowestUnusable 256 t.tables.accounts = some k → put k) ∧
             (lowestUnusable 256 t.tables.accounts = none →
               exec (.accountPut tag n args) s = .next (finish (t.replied 0x38 tag .full .none))))))) ∧
     (s.examineAccounts.accountOf n = none →
       exec (.accountRemove tag (.number n)) s = .next (finish (s.examineAccounts.replied 0x39 tag .absent .none)) ∧
       exec (.accountGet tag (.number n)) s =
         .next (finish (s.examineAccounts.replied 0x3A tag .absent (.accountEntry none s.tables.accounts.length)))) ∧
     (∀ k a, s.examineAccounts.accountOf n = some (k, a) →
       exec (.accountGet tag (.number n)) s =
         .next (finish (s.examineAccounts.replied 0x3A tag .ok (.accountEntry (some (k, .usable a)) s.tables.accounts.length))) ∧
       ((∀ i d, (s.lane i).drop = some d → d.record.account ≠ n) → (∀ p ∈ s.store, p.2.final = false → p.2.drop.account ≠ n) →
         exec (.accountRemove tag (.number n)) s = .next (finish ((s.examineAccounts.setAccounts
           (assocErase s.examineAccounts.tables.accounts k)).replied 0x39 tag .ok .none))) ∧
       (((∃ i d, (s.lane i).drop = some d ∧ d.record.account = n) ∨ ∃ p ∈ s.store, p.2.final = false ∧ p.2.drop.account = n) →
         exec (.accountRemove tag (.number n)) s = .next (finish (s.examineAccounts.replied 0x39 tag .inUse .none))))) ∧
  (∀ (s : State) (tag : Byte) (k : Nat), s.ready → k ≤ 255 →
     let s1 := s.examineAccountAt k
     let erased : Prop := exec (.accountRemove tag (.slot k)) s =
       .next (finish ((s1.setAccounts (assocErase s1.tables.accounts k)).replied 0x39 tag .ok .none))
     let got (r : Report AccountEntry) : Prop := exec (.accountGet tag (.slot k)) s =
       .next (finish (s1.replied 0x3A tag .ok (.accountEntry (some (k, r)) s.tables.accounts.length)))
     (∀ a, assocGet s.tables.accounts k = some (.usable a a) → s1 = s ∧ got (.usable a) ∧
       ((∀ i d, (s.lane i).drop = some d → d.record.account ≠ a.number) →
         (∀ p ∈ s.store, p.2.final = false → p.2.drop.account ≠ a.number) → erased) ∧
       (((∃ i d, (s.lane i).drop = some d ∧ d.record.account = a.number) ∨
           ∃ p ∈ s.store, p.2.final = false ∧ p.2.drop.account = a.number) →
         exec (.accountRemove tag (.slot k)) s = .next (finish (s.replied 0x39 tag .inUse .none)))) ∧
     (∀ c w, assocGet s.tables.accounts k = some (.usable c w) → c ≠ w → got .unusable ∧ erased) ∧
     (assocGet s.tables.accounts k = some .unusable → s1 = s ∧ got .unusable ∧ erased) ∧
     (assocGet s.tables.accounts k = none →
       exec (.accountRemove tag (.slot k)) s = .next (finish (s.replied 0x39 tag .absent .none)) ∧
       exec (.accountGet tag (.slot k)) s =
         .next (finish (s.replied 0x3A tag .absent (.accountEntry none s.tables.accounts.length)))))

/-! ## Sightings -/

/-- SIGHT.HOLD, SIGHT.FIND and SIGHT.FORGET (R74, R92, R93). SIGHT.HOLD puts the new period in force and removes at once every entry that has
reached it, each counted as aged (R91). -/
def Obligations.SightRequests : Prop :=
  ∀ (s : State) (tag : Byte), s.ready →
    (∀ period, 600 ≤ period → period ≤ 86400 →
      let aged := s.sightings.filter (fun e => decide (e.lastSeen + period * 1000 ≤ s.now))
      let kept := s.sightings.filter (fun e => decide (s.now < e.lastSeen + period * 1000))
      exec (.sightHold tag period) s = .next (finish ({ s with
        holdPeriod := period, sightings := kept,
        yard := { s.yard with aged := Nat.repeat raise32 aged.length s.yard.aged } }.replied 0x40 tag .ok (.period period)))) ∧
    (∀ period, period < 600 ∨ 86400 < period → exec (.sightHold tag period) s = .next (finish (s.replied 0x40 tag .range .none))) ∧
    (∀ o n, o ≤ 4095 → 1 ≤ n → n ≤ 1048575 →
      (∀ e, sightingOf s.sightings o n = some e →
        (∃ v, exec (.sightFind tag o n) s = .next (finish (s.replied 0x41 tag .ok
            (.sight (some v) s.sightings.length (s.sightings.head?.map (fun e => (s.now - e.lastSeen) / 1000))))) ∧
          v.owner = e.owner ∧ v.serial = e.serial ∧ v.firstLane = e.firstLane ∧ v.firstDrop = e.firstDrop ∧
          v.elapsed = (s.now - e.lastSeen) / 1000 ∧ v.repeats = e.repeats ∧ 1 ≤ v.place ∧ s.sightings[v.place - 1]? = some e) ∧
        (∃ kept, exec (.sightForget tag o n) s =
            .next (finish ({ s with sightings := kept }.replied 0x42 tag .ok (.count kept.length))) ∧
          kept = s.sightings.filter (fun x => !(decide (x.owner = o) && decide (x.serial = n))))) ∧
      (sightingOf s.sightings o n = none →
        exec (.sightForget tag o n) s = .next (finish (s.replied 0x42 tag .absent .none)) ∧
        exec (.sightFind tag o n) s = .next (finish (s.replied 0x41 tag .absent
          (.sight none s.sightings.length (s.sightings.head?.map (fun e => (s.now - e.lastSeen) / 1000))))))) ∧
    (∀ o n, (4095 < o ∨ n = 0 ∨ 1048575 < n) →
      exec (.sightFind tag o n) s = .next (finish (s.replied 0x41 tag .range
        (.sight none s.sightings.length (s.sightings.head?.map (fun e => (s.now - e.lastSeen) / 1000))))) ∧
      exec (.sightForget tag o n) s = .next (finish (s.replied 0x42 tag .range .none)))

/-! ## Drops and records -/

/-- The number a DROP.OPEN assigns is 1 to 65,535, held by no lane drop and no record, and the first such number after the last assigned, 65,535
counting on to 1. The check generator goes on by one position, from 9,999 to 0, and no two of its 10,000 positions have one code, so it gives each
code once before it repeats; the first after power-on is 1730 (R103). -/
def Obligations.NumberAndCodeAssigned : Prop :=
  (∀ s : State, s.store.length ≤ 32 →
     1 ≤ s.nextDropNumber ∧ s.nextDropNumber ≤ 65535 ∧ (∀ i d, (s.lane i).drop = some d → d.record.number ≠ s.nextDropNumber) ∧
     (∀ p ∈ s.store, p.2.drop.number ≠ s.nextDropNumber)) ∧
  (∀ s : State, s.store.length ≤ 32 → s.lastDrop ≤ 65535 →
     let following (n : Nat) : Nat := if n = 65535 then 1 else n + 1
     let held (n : Nat) : Prop := (∃ i d, (s.lane i).drop = some d ∧ d.record.number = n) ∨ ∃ p ∈ s.store, p.2.drop.number = n
     ∃ j, s.nextDropNumber = Nat.repeat following (j + 1) s.lastDrop ∧ ¬ held s.nextDropNumber ∧
       ∀ k, k < j → held (Nat.repeat following (k + 1) s.lastDrop)) ∧
  (checkCodeAt (nextCheckPos 0) = 1730 ∧ (∀ p, checkCodeAt p < 10000) ∧
   (∀ p q, p < 10000 → q < 10000 → checkCodeAt p = checkCodeAt q → p = q) ∧
   (∀ p, p < 9999 → nextCheckPos p = p + 1) ∧ nextCheckPos 9999 = 0)

/-- DROP.OPEN in range on an IDLE lane (R101, R102): ABSENT with no such account or no valid pool, STATE with a suspended one; else a waiting item
is handed on first, the number and code are assigned, sightings let go of the number, and the drop is opened with the values of Table 6-1; on a lane
that is not IDLE it is refused with STATE. DROP.CLOSE (R105): refused with ABSENT for a number nobody holds, with STATE for a record and for a drop
that is DRAINING or PARKED; of an OPEN drop whose quiet condition does not hold yet the drop is DRAINING from now, and nothing else changes; where
it holds, the drain ends at once, after the reply (in the same event: the model's reading, log 25). -/
def Obligations.DropOpenAndClose : Prop :=
  (∀ (s : State) (tag : Byte) (i : LaneIdx) (account k : Nat) (a : AccountEntry) (pool : PoolEntry) (driver : List Byte)
     (ds : List Declaration), s.ready → (s.lane i).state = .idle → (s.lane i).waiting = none → 1 ≤ account → account ≤ 65535 →
     driverInRange driver = true → declarationsInRange ds = true → s.examineAccounts = s →
     s.accountOf account = some (k, a) → assocGet s.tables.pools a.pool = some (.usable pool pool) → a.state = .active →
     let n := s.nextDropNumber
     let code := checkCodeAt (nextCheckPos s.checkPos)
     ∃ u d, exec (.dropOpen tag (i.val + 1) account driver ds) s = .next u ∧
       (u.lane i).drop = some ⟨d, .opened⟩ ∧ (u.lane i).state = .opened ∧ d.number = n ∧ d.account = account ∧ d.driver = driver ∧
       d.declarations = ds ∧ d.checkCode = code ∧ d.lines = [] ∧ d.unresolved = .zero ∧ d.reverse = 0 ∧ d.long = 0 ∧ d.rejects = 0 ∧
       d.gateFault = false ∧ d.drainCut = false ∧ d.openStamp = s.host.clock ∧ d.firstSeq = (s.lane i).journal.nextSeq ∧
       d.drainEndStamp = none ∧ d.lastSeq = none ∧ d.station = none ∧
       u.lastDrop = n ∧ u.checkPos = nextCheckPos s.checkPos ∧ (∀ e ∈ u.sightings, e.firstDrop ≠ some n) ∧
       u.sightings.map (fun e => (e.owner, e.serial, e.firstLane, e.lastSeen, e.repeats)) =
         s.sightings.map (fun e => (e.owner, e.serial, e.firstLane, e.lastSeen, e.repeats)) ∧
       (u.lane i).journal.entries.getLast? =
         some ⟨(s.lane i).journal.nextSeq, s.stamp, .dropOpen n account driver ds⟩ ∧
       u.lane i = { s.lane i with
         drop := some ⟨d, .opened⟩, journal := (u.lane i).journal, pacing := (u.lane i).pacing } ∧
       (∀ j, j ≠ i → u.lane j = (s.lane j).repace) ∧ u.store = s.store ∧ u.finalOrder = s.finalOrder ∧ u.parkOrder = s.parkOrder ∧
       u.tables = s.tables ∧ u.stationA = s.stationA ∧ u.stationB = s.stationB ∧
       (u.host.tx = some (.reply ⟨0x48, tag, .ok, .opened n code⟩) ∨ u.host.reply = some ⟨0x48, tag, .ok, .opened n code⟩)) ∧
  (∀ (s : State) (tag : Byte) (i : LaneIdx) (account : Nat) (driver : List Byte) (ds : List Declaration), s.ready →
     ((s.lane i).state ≠ .idle → 1 ≤ account → account ≤ 65535 → driverInRange driver = true → declarationsInRange ds = true →
       exec (.dropOpen tag (i.val + 1) account driver ds) s = .next (finish (s.replied 0x48 tag .state .none))) ∧
     (exec (.dropOpen tag (i.val + 1) 0 driver ds) s = .next (finish (s.replied 0x48 tag .range .none)))) ∧
  (∀ (s : State) (tag : Byte) (n : Nat) (i : LaneIdx) (d : DropRec), s.ready → n ≠ 0 →
     s.findLaneDrop n = some (i, ⟨d, .opened⟩) → d.number = n → (s.lane i).drop = some ⟨d, .opened⟩ →
     ((s.lane i).gate ≠ .idle ∨ (s.lane i).grace ≠ none ∨ (match (s.lane i).lastABlock with
       | some t => s.now < t + (s.lane i).cfg.drainQuiet
       | none => 0 < (s.lane i).cfg.drainQuiet)) →
     exec (.dropClose tag n) s = .next (finish ((s.modLane i (fun l => { l with drop := some ⟨d, .draining s.now⟩ })).replied
       0x49 tag .ok .none))) ∧
  (∀ (s : State) (tag : Byte) (i : LaneIdx) (account : Nat) (driver : List Byte) (ds : List Declaration), s.ready →
     (s.lane i).state = .idle → 1 ≤ account → account ≤ 65535 → driverInRange driver = true → declarationsInRange ds = true →
     let refused (u : State) (status : Status) : Prop :=
       exec (.dropOpen tag (i.val + 1) account driver ds) s = .next (finish (u.replied 0x48 tag status .none))
     let s1 := s.examineAccounts
     (s1.accountOf account = none → refused s1 .absent) ∧
     (∀ ka a, s1.accountOf account = some (ka, a) →
       let s2 := s1.examinePoolAt a.pool
       (s2.poolAt a.pool = none → refused s2 .absent) ∧
       (∀ p, s2.poolAt a.pool = some p →
         (a.state = .suspended → refused s2 .state) ∧
         (a.state = .active →
           let s3 := s2.handOverWaiting i
           let n := s3.nextDropNumber
           let pos := nextCheckPos s3.checkPos
           let d : DropRec :=
             { number := n, lane := i, account := account, driver := driver, declarations := ds, checkCode := checkCodeAt pos,
               lines := [], unresolved := .zero, reverse := 0, long := 0, rejects := 0, gateFault := false, drainCut := false,
               openStamp := s.host.clock, drainEndStamp := none, firstSeq := (s3.lane i).journal.nextSeq, lastSeq := none,
               station := none }
           let opened := { s3 with lastDrop := n, checkPos := pos, sightings := s3.sightings.map (fun (e : Sighting) =>
             if e.firstDrop = some n then { e with firstDrop := none } else e) }.modLane i (fun l => { l with drop := some ⟨d, .opened⟩ })
           exec (.dropOpen tag (i.val + 1) account driver ds) s = .next (finish
             ((opened.journalWrite i (.dropOpen n account driver ds)).replied 0x48 tag .ok (.opened n (checkCodeAt pos)))))))) ∧
  (∀ (s : State) (tag : Byte) (n : Nat), s.ready → n ≠ 0 →
     let refused (status : Status) : Prop := exec (.dropClose tag n) s = .next (finish (s.replied 0x49 tag status .none))
     (s.holder n = .nobody → refused .absent) ∧
     (∀ k r, s.holder n = .record k r → refused .state) ∧
     (∀ i d, s.holder n = .laneDrop i d → d.state ≠ .opened → refused .state) ∧
     (∀ i d, s.holder n = .laneDrop i ⟨d, .opened⟩ →
       let closed := (s.modLane i (fun l => { l with drop := some ⟨d, .draining s.now⟩ })).replied 0x49 tag .ok .none
       exec (.dropClose tag n) s = .next (finish (closed.quietTest i)) ∧
       ((s.lane i).gate = .idle → (s.lane i).grace = none → (match (s.lane i).lastABlock with
           | some t => t + (s.lane i).cfg.drainQuiet ≤ s.now
           | none => (s.lane i).cfg.drainQuiet = 0) →
         exec (.dropClose tag n) s = .next (finish (closed.drainEnd i .quiet)))))

/-- DROP.RESOLVE (R116, R117): once its entries pass the range test, in turn an unknown number, a number that is no HELD record's, entries that ask
a cause for too much or leave it units that do not fit its items, and lines that do not fit are refused; else each entry's items and units leave the
tally of its cause for the line (class, RESOLVED, value), new lines at the end, the count of classified items is kept, the amount is recomputed and
the record stays HELD. DROP.APPROVE (R118): with no unresolved item it settles; with some it is refused, or, with the option set and room, every
unresolved item goes to the line (no class, WRITTEN_OFF, 0), which adds nothing to the amount, and it settles. Parked drops are offered room after
the reply (the model's reading, log 17). -/
def Obligations.HeldRecordRequests : Prop :=
  (∀ (s : State) (tag : Byte) (n : Nat) (args : List ResolveArgs), s.ready →
     let answered (status : Status) : Prop := exec (.dropResolve tag n args) s = .next (finish (s.replied 0x4A tag status .none))
     ((args = [] ∨ 8 < args.length ∨ n = 0 ∨ ∃ e ∈ args, 5 < e.cause ∨ 63 < e.cls ∨ e.items < 1 ∨ 65535 < e.items ∨ e.units < e.items ∨
        12 * e.items < e.units ∨ 999999 < e.value) → answered .range) ∧
     (∀ es, resolveEntriesOf args = some es → n ≠ 0 →
       es.map (fun e => (e.cls, e.items, e.units, e.value)) = args.map (fun e => (e.cls, e.items, e.units, e.value)) ∧
       es.map (fun e => causeOf e.cause.number) = args.map (fun e => causeOf e.cause) ∧
       (s.holder n = .nobody → answered .absent) ∧ (∀ i d, s.holder n = .laneDrop i d → answered .state) ∧
       (∀ k r, s.holder n = .record k r → r.state ≠ .held → answered .state) ∧
       (∀ k r, s.holder n = .record k r → r.state = .held →
         let items (p : ResolveEntry → Bool) : Nat := ((es.filter p).map ResolveEntry.items).sum
         let units (p : ResolveEntry → Bool) : Nat := ((es.filter p).map ResolveEntry.units).sum
         let ofCause (c : Cause) (e : ResolveEntry) : Bool := decide (e.cause = c)
         let toLine (cls value : Nat) (e : ResolveEntry) : Bool := decide (e.cls = cls) && decide (e.value = value)
         let left (c : Cause) : Tally :=
           ⟨(r.drop.unresolved.get c).items - items (ofCause c), (r.drop.unresolved.get c).units - units (ofCause c)⟩
         let covered : Prop := ∀ e ∈ es, items (ofCause e.cause) ≤ (r.drop.unresolved.get e.cause).items ∧
           units (ofCause e.cause) ≤ (r.drop.unresolved.get e.cause).units ∧ (left e.cause).items ≤ (left e.cause).units ∧
           (left e.cause).units ≤ 12 * (left e.cause).items
         ∃ d : DropRec, d = { r.drop with lines := d.lines, unresolved := d.unresolved } ∧
           (∀ c, d.unresolved.get c = left c) ∧
           (∀ cls disp value, (disp ≠ .resolved ∨ cls = none) →
             lineOf d.lines cls disp value = lineOf r.drop.lines cls disp value) ∧
           (∀ cls value, lineOf d.lines (some cls) .resolved value =
             (match lineOf r.drop.lines (some cls) .resolved value with
               | some l => some { l with items := l.items + items (toLine cls value), units := l.units + units (toLine cls value) }
               | none => if es.any (toLine cls value) then
                   some ⟨some cls, .resolved, value, items (toLine cls value), units (toLine cls value)⟩ else none)) ∧
           r.drop.lines.map (fun l => (l.cls, l.disposition, l.value)) <+: d.lines.map (fun l => (l.cls, l.disposition, l.value)) ∧
           (¬ covered → answered .range) ∧
           (covered → (32 < d.lines.length ∨ ∃ l ∈ d.lines, l.disposition = .resolved ∧ 65535 < l.items) → answered .full) ∧
           (covered → d.lines.length ≤ 32 → (∀ l ∈ d.lines, l.disposition = .resolved → l.items ≤ 65535) →
             d.classified = r.drop.classified ∧
             exec (.dropResolve tag n args) s = .next (finish ((s.setRecord k { r with drop := d, amount := d.amount }).replied
               0x4A tag .ok (.resolved d.amount d.unresolved.items d.lines.length))))))) ∧
  (∀ (s : State) (tag : Byte) (n : Nat), s.ready → n ≠ 0 →
     let answered (w : Bool) (status : Status) : Prop :=
       exec (.dropApprove tag n w) s = .next (finish (s.replied 0x4B tag status .none))
     (s.holder n = .nobody → ∀ w, answered w .absent) ∧ (∀ i d, s.holder n = .laneDrop i d → ∀ w, answered w .state) ∧
     (∀ k r, s.holder n = .record k r → r.state ≠ .held → ∀ w, answered w .state) ∧
     (∀ k r, s.holder n = .record k r → r.state = .held →
       (∀ w, r.drop.unresolved.items = 0 → ∃ r', (s.settle k r).recordAt k = some r' ∧
         exec (.dropApprove tag n w) s = .next (finish (((s.settle k r).replied 0x4B tag .ok (.approved r.amount r'.state.tag)).enterParked))) ∧
       (r.drop.unresolved.items ≠ 0 →
         let items := r.drop.unresolved.items
         let units := r.drop.unresolved.units
         answered false .state ∧
         ((((∀ l ∈ r.drop.lines, l.disposition ≠ .writtenOff) ∧ 32 ≤ r.drop.lines.length) ∨ 65535 < items) → answered true .full) ∧
         (((∃ l ∈ r.drop.lines, l.disposition = .writtenOff) ∨ r.drop.lines.length < 32) → items ≤ 65535 →
           ∃ r1 r', r1 = { r with drop := { r.drop with unresolved := .zero, lines := r1.drop.lines } } ∧
             lineOf r1.drop.lines none .writtenOff 0 = some (match lineOf r.drop.lines none .writtenOff 0 with
               | some l => { l with items := l.items + items, units := l.units + units }
               | none => ⟨none, .writtenOff, 0, items, units⟩) ∧
             (∀ cls disp value, (cls, disp, value) ≠ (none, .writtenOff, 0) →
               lineOf r1.drop.lines cls disp value = lineOf r.drop.lines cls disp value) ∧
             r1.drop.lines.map (fun l => (l.cls, l.disposition, l.value)) =
               r.drop.lines.map (fun l => (l.cls, l.disposition, l.value)) ++
                 (if lineOf r.drop.lines none .writtenOff 0 = none then [(none, .writtenOff, 0)] else []) ∧
             r1.drop.amount = r.drop.amount ∧ r1.drop.classified = r.drop.classified ∧
             ((s.setRecord k r1).settle k r1).recordAt k = some r' ∧
             exec (.dropApprove tag n true) s =
               .next (finish ((((s.setRecord k r1).settle k r1).replied 0x4B tag .ok (.approved r.amount r'.state.tag)).enterParked))))))

/-- DROP.ABANDON (R94, R119, R120): refused with ABSENT for a number nobody holds and with STATE for a record that is not HELD. A lane drop is
discarded, its waiting item handed on into it first unless it is PARKED, and its lane is IDLE; a HELD record is VOID with no money; either way every
sighting learned by the drop is removed, DROP_VOID reports how many and from what state, and the reply is OK. Drops that are parked then enter while
there is room (the model's reading, log 17). -/
def Obligations.AbandonRule : Prop :=
  ∀ (s : State) (tag : Byte) (n : Nat), s.ready → n ≠ 0 →
    (∀ i d, s.findLaneDrop n = some (i, d) → (s.lane i).drop = some d → d.record.number = n → (s.lane i).waiting = none →
      (s.lane i).inService = true → s.parkOrder.filter (fun j => decide (j ≠ i)) = [] →
      ∃ u, exec (.dropAbandon tag n) s = .next u ∧ (u.lane i).state = .idle ∧
        u.lane i = { s.lane i with drop := none, rejects := [], journal := (u.lane i).journal, pacing := .stop } ∧
        (∀ j, j ≠ i → u.lane j = (s.lane j).repace) ∧ u.finalOrder = s.finalOrder ∧ u.parkOrder = [] ∧ u.tables = s.tables ∧
        u.stationA = s.stationA ∧ u.stationB = s.stationB ∧ u.sightings = s.sightings.filter (fun e => decide (e.firstDrop ≠ some n)) ∧ u.store = s.store ∧
        (u.lane i).journal.entries.getLast? = some ⟨(s.lane i).journal.nextSeq, s.stamp,
          .dropClose n .abandoned d.record.classified d.record.amount⟩) ∧
    (∀ k r, s.holder n = .record k r → r.state = .held → s.parkOrder = [] →
      ∃ u, exec (.dropAbandon tag n) s = .next u ∧ u.finalOrder = s.finalOrder ++ [k] ∧
        u.sightings = s.sightings.filter (fun e => decide (e.firstDrop ≠ some r.drop.number)) ∧
        u.lanes = s.lanes.map Lane.repace ∧ u.tables = s.tables ∧ u.stationA = s.stationA ∧ u.stationB = s.stationB ∧
        (∀ k', k' ≠ k → u.recordAt k' = s.recordAt k') ∧
        u.recordAt k = some { r with
          state := .void, amount := 0, cashPart := 0, cashPaid := 0, creditIssued := 0, outstanding := 0, unresolvedAmount := 0,
          finalStamp := some s.host.clock }) ∧
  (∀ (s : State) (tag : Byte) (n : Nat), s.ready → n ≠ 0 →
     let refused (status : Status) : Prop := exec (.dropAbandon tag n) s = .next (finish (s.replied 0x4C tag status .none))
     let learned (u : State) : Nat := (u.sightings.filter (fun e => decide (e.firstDrop = some n))).length
     let kept (u : State) : List Sighting := u.sightings.filter (fun e => decide (e.firstDrop ≠ some n))
     (s.holder n = .nobody → refused .absent) ∧
     (∀ k r, s.holder n = .record k r → r.state ≠ .held → refused .state) ∧
     (∀ k r, s.holder n = .record k r → r.state = .held → exec (.dropAbandon tag n) s = .next (finish
       ((({ s with
          sightings := kept s, finalOrder := s.finalOrder ++ [k],
          store := assocSet s.store k { r with
            state := .void, amount := 0, cashPart := 0, cashPaid := 0, creditIssued := 0, outstanding := 0, unresolvedAmount := 0,
            finalStamp := some s.host.clock } }.post
         (.dropVoid n r.drop.lane .held (learned s))).replied 0x4C tag .ok .none).enterParked))) ∧
     (∀ i d, s.holder n = .laneDrop i d →
       let handed : State := match d.state with | .parked => s | _ => s.handOverWaiting i
       ∃ d', (handed.lane i).drop = some ⟨d', d.state⟩ ∧ d'.number = n ∧
         (let closed := ({ handed with parkOrder := handed.parkOrder.filter (fun j => decide (j ≠ i)) }.modLane i (fun l => { l with
            rejects := [] })).journalWrite i (.dropClose n .abandoned d'.classified d'.amount)
          exec (.dropAbandon tag n) s = .next (finish
            (((({ closed with sightings := kept closed }.modLane i (fun l => { l with drop := none })).post
              (.dropVoid n i (match d.state with | .opened => .opened | .draining _ => .draining | .parked => .parked)
                (learned closed))).replied 0x4C tag .ok .none).enterParked)))))

/-- DROP.GET and RECORD.GET report without changing anything, a lane drop or a record field by field, with places counted from 1 (R121, R144); a
number nobody holds, a lane with no drop and a free slot are ABSENT, and RECORD.GET of a lane drop's number is refused with STATE, each RECORD.GET
with its counts. RECORD.CLEAR (R131): by number it removes a final record; with ALL it removes every final record and answers how many, and no
other. Parked drops are offered room after the reply (the model's reading, log 17). -/
def Obligations.RecordReadsAndClear : Prop :=
  (∀ (s : State) (tag : Byte) (n k : Nat) (r : SettleRec), s.ready → n ≠ 0 → s.holder n = .record k r →
     let drop : DropView :=
       { record := r.drop, tag := .record r.state.tag, amount := r.amount, classified := r.drop.classified, sinceClose := none,
         toQuiet := none, place := 0 }
     let view : RecordView :=
       { slot := k, number := r.drop.number, tag := r.state.tag, reasons := r.reasons, amount := r.amount, cashPart := r.cashPart,
         creditIssued := r.creditIssued, cashPaid := r.cashPaid, outstanding := r.outstanding,
         unresolvedAmount := r.unresolvedAmount,
         deadline := match r.state with | .awaiting t => some ((t - s.now + 999) / 1000) | _ => none,
         queuePlace := match r.station with | some x => placeIn k (s.station x).queue | none => 0,
         finalStamp := r.finalStamp, finalPlace := placeIn k s.finalOrder, retracts := r.retracts, badChecks := r.badChecks }
     exec (.dropGet tag (.number n) .summary) s = .next (finish (s.replied 0x4D tag .ok (.dropSummary drop (some view)))) ∧
     (∀ first, first ≤ 31 → exec (.dropGet tag (.number n) (.lines first)) s =
       .next (finish (s.replied 0x4D tag .ok
         (.dropLines r.drop.number r.drop.lines.length first ((r.drop.lines.drop first).take 20))))) ∧
     exec (.recordGet tag (.number n)) s = .next (finish (s.replied 0x52 tag .ok
       (.record (some (view, drop)) s.store.length s.finalOrder.length s.parkOrder.length))) ∧
     (k ≤ 31 → s.recordAt k = some r → exec (.recordGet tag (.slot k)) s = .next (finish (s.replied 0x52 tag .ok
       (.record (some (view, drop)) s.store.length s.finalOrder.length s.parkOrder.length))))) ∧
  (∀ (s : State) (tag : Byte) (n : Nat) (i : LaneIdx) (d : LaneDrop), s.ready → (s.lane i).drop = some d →
     let quiet (closed : Nat) : Nat := (s.lane i).lastABlock.getD closed + (s.lane i).cfg.drainQuiet
     let drop : DropView :=
       { record := d.record, amount := d.record.amount, classified := d.record.classified,
         tag := match d.state with | .opened => .opened | .draining _ => .draining | .parked => .parked,
         sinceClose := match d.state with | .draining closed => some (s.now - closed) | _ => none,
         toQuiet := match d.state with
           | .draining closed => if s.now < quiet closed then some (quiet closed - s.now) else none
           | _ => none,
         place := match d.state with | .parked => placeIn i s.parkOrder | _ => 0 }
     exec (.dropGet tag (.lane (i.val + 1)) .summary) s = .next (finish (s.replied 0x4D tag .ok (.dropSummary drop none))) ∧
     (n ≠ 0 → s.holder n = .laneDrop i d →
       exec (.dropGet tag (.number n) .summary) s = .next (finish (s.replied 0x4D tag .ok (.dropSummary drop none)))) ∧
     (∀ first, first ≤ 31 → exec (.dropGet tag (.lane (i.val + 1)) (.lines first)) s =
       .next (finish (s.replied 0x4D tag .ok
         (.dropLines d.record.number d.record.lines.length first ((d.record.lines.drop first).take 20)))))) ∧
  (∀ (α : Type) [DecidableEq α] (x : α) (l : List α), (x ∉ l → placeIn x l = 0) ∧
     (x ∈ l → 1 ≤ placeIn x l ∧ l[placeIn x l - 1]? = some x ∧ ∀ j, j < placeIn x l - 1 → l[j]? ≠ some x)) ∧
  (∀ (s : State) (tag : Byte), s.ready →
     (∀ n k r, n ≠ 0 → s.holder n = .record k r → r.final = true → exec (.recordClear tag (.number n)) s =
       .next (finish (({ s with
         store := assocErase s.store k, finalOrder := s.finalOrder.filter (fun x => decide (x ≠ k)) }.replied
           0x51 tag .ok .none).enterParked))) ∧
     (∀ n k r, n ≠ 0 → s.holder n = .record k r → r.final = false →
       exec (.recordClear tag (.number n)) s = .next (finish (s.replied 0x51 tag .state .none))) ∧
     (∀ n i d, n ≠ 0 → s.holder n = .laneDrop i d →
       exec (.recordClear tag (.number n)) s = .next (finish (s.replied 0x51 tag .state .none))) ∧
     (∀ n, n ≠ 0 → s.holder n = .nobody →
       exec (.recordClear tag (.number n)) s = .next (finish (s.replied 0x51 tag .absent .none))) ∧
     exec (.recordClear tag (.number 0)) s = .next (finish (s.replied 0x51 tag .range .none)) ∧
     exec (.recordClear tag .all) s = .next (finish (({ s with
       store := s.store.filter (fun p : SlotIdx × SettleRec => !p.2.final), finalOrder := [] }.replied 0x51 tag .ok
         (.count (s.store.filter (fun p : SlotIdx × SettleRec => p.2.final)).length)).enterParked))) ∧
  (∀ (s : State) (tag : Byte) (n : Nat), s.ready → n ≠ 0 →
     let counts : Result := .record none s.store.length s.finalOrder.length s.parkOrder.length
     (s.holder n = .nobody → exec (.dropGet tag (.number n) .summary) s = .next (finish (s.replied 0x4D tag .absent .none)) ∧
       (∀ first, first ≤ 31 →
         exec (.dropGet tag (.number n) (.lines first)) s = .next (finish (s.replied 0x4D tag .absent .none))) ∧
       exec (.recordGet tag (.number n)) s = .next (finish (s.replied 0x52 tag .absent counts))) ∧
     (∀ i d, s.holder n = .laneDrop i d →
       exec (.recordGet tag (.number n)) s = .next (finish (s.replied 0x52 tag .state counts)))) ∧
  (∀ (s : State) (tag : Byte), s.ready →
     (∀ i : LaneIdx, (s.lane i).drop = none →
       exec (.dropGet tag (.lane (i.val + 1)) .summary) s = .next (finish (s.replied 0x4D tag .absent .none)) ∧
       (∀ first, first ≤ 31 →
         exec (.dropGet tag (.lane (i.val + 1)) (.lines first)) s = .next (finish (s.replied 0x4D tag .absent .none)))) ∧
     (∀ k, k ≤ 31 → s.recordAt k = none → exec (.recordGet tag (.slot k)) s = .next (finish (s.replied 0x52 tag .absent
       (.record none s.store.length s.finalOrder.length s.parkOrder.length)))))

/-! ## STATION requests -/

/-- STATION.OPEN (R148) in CLOSED and FAULT with the link UP; STATION.CLOSE (R149) from OPEN and FAULT to CLOSED, from SERVING to CLOSING with the
queue returned; STATION.LOAD in range (R150, R153) in CLOSED and FAULT; each refused with STATE elsewhere; STATION.GET (R151), field by field. After
a STATION.LOAD each low cassette is reported and its alarm disarmed (R152), by rising number (the model's choice, log 28). The cause REQUEST at a
close is the model's choice (log 16). -/
def Obligations.StationRequests : Prop :=
  (∀ (s : State) (tag : Byte) (x : StationId), s.ready →
     let n := match x with | .a => 0 | .b => 1
     (∀ since, ((s.station x).state = .closed ∨ (s.station x).state = .fault) → (s.station x).link = .up since →
       exec (.stationOpen tag n) s = .next (finish (((s.modStation x (fun u => { u with state := .opened })).post
         (.stationChange x .opened true .request)).replied 0x58 tag .ok .none))) ∧
     (((s.station x).link = .lost ∨ (s.station x).state.tag = .opened ∨ (s.station x).state.tag = .serving ∨
         (s.station x).state.tag = .closing) →
       exec (.stationOpen tag n) s = .next (finish (s.replied 0x58 tag .state .none)))) ∧
  (∀ (s : State) (tag : Byte) (x : StationId), s.ready →
     let n := match x with | .a => 0 | .b => 1
     (((s.station x).state = .opened ∨ (s.station x).state = .fault) → exec (.stationClose tag n) s =
       .next (finish (((s.modStation x (fun u => { u with state := .closed })).post
         (.stationChange x .closed (s.station x).link.isUp .request)).replied 0x59 tag .ok .none))) ∧
     (∀ d, (s.station x).state = .serving d → ∃ u, exec (.stationClose tag n) s = .next u ∧
       u.station x = { s.station x with state := .closing d, queue := [] } ∧ (∀ y, y ≠ x → u.station y = s.station y) ∧
       u.lanes = s.lanes.map Lane.repace ∧ u.tables = s.tables ∧ u.sightings = s.sightings ∧ u.finalOrder = s.finalOrder ∧
       (∀ k, k ∉ (s.station x).queue → u.recordAt k = s.recordAt k) ∧
       (∀ k r, k ∈ (s.station x).queue → s.recordAt k = some r → r.station = some x →
         u.recordAt k = some { r with state := .awaiting (s.now + (s.station x).claimPeriod * 1000) }) ∧
       u = finish ((({ s with store := u.store }.modStation x (fun v => { v with state := .closing d, queue := [] })).post
         (.stationChange x .closing (s.station x).link.isUp .request)).replied 0x59 tag .ok .none)) ∧
     (((s.station x).state = .closed ∨ (s.station x).state.tag = .closing) →
       exec (.stationClose tag n) s = .next (finish (s.replied 0x59 tag .state .none)))) ∧
  (∀ (s : State) (tag : Byte) (x : StationId) (args : Four CassetteArgs) (cs : Four Cassette) (claimPeriod takePeriod : Nat) (back : Bool),
     s.ready → cassettesOf args = some cs → 60 ≤ claimPeriod → claimPeriod ≤ 86400 → 10 ≤ takePeriod → takePeriod ≤ 120 →
     let n := match x with | .a => 0 | .b => 1
     (((s.station x).state = .closed ∨ (s.station x).state = .fault) →
       exec (.stationLoad tag n args claimPeriod takePeriod back) s = .next (finish (((s.modStation x (fun u => { u with
         cassettes := cs, claimPeriod := claimPeriod, takePeriod := takePeriod,
         retractValue := if back then 0 else u.retractValue, retractNotes := if back then 0 else u.retractNotes })).replied
         0x5A tag .ok (.tally (if back then some ((s.station x).retractValue, (s.station x).retractNotes) else none))).testLoaded x))) ∧
     (((s.station x).state.tag = .opened ∨ (s.station x).state.tag = .serving ∨ (s.station x).state.tag = .closing) →
       exec (.stationLoad tag n args claimPeriod takePeriod back) s = .next (finish (s.replied 0x5A tag .state .none))) ∧
     exec (.stationGet tag n) s = .next (finish (s.replied 0x5B tag .ok (.station
       { state := (s.station x).state.tag, up := (s.station x).link.isUp, lastFault := (s.station x).lastFault,
         cassettes := (s.station x).cassettes, claimPeriod := (s.station x).claimPeriod, takePeriod := (s.station x).takePeriod,
         retractValue := (s.station x).retractValue, retractNotes := (s.station x).retractNotes,
         queue := (s.station x).queue.map (fun k => match s.recordAt k with | some r => r.drop.number | none => 0),
         dispense := (s.station x).state.dispense.map (fun d =>
           { number := match s.recordAt d.slot with | some r => r.drop.number | none => 0, ordered := d.ordered, value := d.value,
             step := match d.step with | .pick => .pick | .present _ => .present | .outcome _ => .outcome,
             picked := match d.step with | .pick => none | .present p => some p | .outcome p => some p,
             timeLeft := d.timeout - s.now }) })))) ∧
  (∀ (s : State) (x : StationId),
     let cs := (s.station x).cassettes
     let low (c : Cassette) : Bool := decide (c.denomination ≠ 0) && c.armed && decide (c.count ≤ c.threshold)
     let notice (number : Nat) (c : Cassette) : List NoticeBody :=
       if low c then [.cassetteLow x number c.denomination c.count] else []
     s.testLoaded x = (s.modStation x (fun u => { u with cassettes := cs.map (fun c => { c with armed := c.armed && !low c }) })).postAll
       (notice 1 cs.c1 ++ notice 2 cs.c2 ++ notice 3 cs.c3 ++ notice 4 cs.c4))

/-! ## Journals and counters -/

/-- A journal write (R165, R168, R169): the entry takes the next number at the newest end, at most 256 are kept, and an overwrite of an unread entry
moves the read mark to it; JOURNAL_WRAP is then posted if its alarm is armed, and after it JOURNAL_HALF if its alarm is armed and 128 entries or
more are unread, each disarming its alarm; past 2^48 - 1 the next number is a free value of 1 to 2^48 - 1 (the model's choice, log 12). A raise of a
lane counter at its top makes it 0 and sets its overflow flag; a yard counter at its top becomes 0 (R171, R173). -/
def Obligations.JournalAndCounterRule : Prop :=
  (∀ (j : Journal) (i : LaneIdx) (stamp : Stamp) (body : JournalBody), j.entries.length ≤ 256 →
     let w := (j.write i stamp body).1
     w.entries = (if j.entries.length = 256 then j.entries.tail else j.entries) ++ [⟨j.nextSeq, stamp, body⟩] ∧
     w.entries.length ≤ 256 ∧ (j.nextSeq < 281474976710655 → w.nextSeq = j.nextSeq + 1) ∧
     1 ≤ w.nextSeq ∧ w.nextSeq ≤ 281474976710655 ∧
     (∀ e rest, j.entries.length = 256 → j.entries = e :: rest → j.readMark < e.seq → w.readMark = e.seq ∧ w.wrapArmed = false) ∧
     ((j.entries.length < 256 ∨ ∃ e rest, j.entries = e :: rest ∧ e.seq ≤ j.readMark) →
       w.readMark = j.readMark ∧ w.wrapArmed = j.wrapArmed) ∧
     (w.halfArmed = (j.halfArmed && decide (w.unread < 128))) ∧
     w.unread = j.nextSeq - w.readMark ∧
     ∃ wrap half, (j.write i stamp body).2 = wrap ++ half ∧
       (∀ e rest, j.entries.length = 256 → j.entries = e :: rest → j.readMark < e.seq → j.wrapArmed = true →
         wrap = [.journalWrap i e.seq j.nextSeq]) ∧
       ((j.wrapArmed = false ∨ j.entries.length < 256 ∨ ∃ e rest, j.entries = e :: rest ∧ e.seq ≤ j.readMark) → wrap = []) ∧
       (128 ≤ w.unread → j.halfArmed = true → half = [.journalHalf i w.unread j.nextSeq]) ∧
       ((w.unread < 128 ∨ j.halfArmed = false) → half = [])) ∧
  (∀ (s : State) (i : LaneIdx) (body : JournalBody),
     let written := (s.lane i).journal.write i s.stamp body
     s.journalWrite i body = written.2.foldl (fun u notice => u.post notice) (s.modLane i (fun l => { l with journal := written.1 }))) ∧
  ((∀ c : Counter, c.value < 1073741823 → c.raise = { value := c.value + 1, overflow := c.overflow }) ∧
   (∀ c : Counter, c.value = 1073741823 → c.raise = { value := 0, overflow := true }) ∧
   raise32 4294967295 = 0 ∧ (∀ n, n < 4294967295 → raise32 n = n + 1))
end

