-- ==== Sys2Proof/Laws/State.lean ====
section
/-! SUPPORT. How each named update of the state reads back, field by field. -/

namespace Sys2Proof.Machine

/-! ## setLane -/

@[simp] theorem setLane_rstHeld (s : State) (i : LaneIdx) (l : Lane) : (s.setLane i l).rstHeld = s.rstHeld := rfl
@[simp] theorem setLane_now (s : State) (i : LaneIdx) (l : Lane) : (s.setLane i l).now = s.now := rfl
@[simp] theorem setLane_host (s : State) (i : LaneIdx) (l : Lane) : (s.setLane i l).host = s.host := rfl
@[simp] theorem setLane_yard (s : State) (i : LaneIdx) (l : Lane) : (s.setLane i l).yard = s.yard := rfl
@[simp] theorem setLane_tables (s : State) (i : LaneIdx) (l : Lane) : (s.setLane i l).tables = s.tables := rfl
@[simp] theorem setLane_holdPeriod (s : State) (i : LaneIdx) (l : Lane) : (s.setLane i l).holdPeriod = s.holdPeriod := rfl
@[simp] theorem setLane_sightings (s : State) (i : LaneIdx) (l : Lane) : (s.setLane i l).sightings = s.sightings := rfl
@[simp] theorem setLane_lastDrop (s : State) (i : LaneIdx) (l : Lane) : (s.setLane i l).lastDrop = s.lastDrop := rfl
@[simp] theorem setLane_checkPos (s : State) (i : LaneIdx) (l : Lane) : (s.setLane i l).checkPos = s.checkPos := rfl
@[simp] theorem setLane_parkOrder (s : State) (i : LaneIdx) (l : Lane) : (s.setLane i l).parkOrder = s.parkOrder := rfl
@[simp] theorem setLane_store (s : State) (i : LaneIdx) (l : Lane) : (s.setLane i l).store = s.store := rfl
@[simp] theorem setLane_finalOrder (s : State) (i : LaneIdx) (l : Lane) : (s.setLane i l).finalOrder = s.finalOrder := rfl
@[simp] theorem setLane_stationA (s : State) (i : LaneIdx) (l : Lane) : (s.setLane i l).stationA = s.stationA := rfl
@[simp] theorem setLane_stationB (s : State) (i : LaneIdx) (l : Lane) : (s.setLane i l).stationB = s.stationB := rfl
@[simp] theorem setLane_choices (s : State) (i : LaneIdx) (l : Lane) : (s.setLane i l).choices = s.choices := rfl
@[simp] theorem setLane_pending (s : State) (i : LaneIdx) (l : Lane) : (s.setLane i l).pending = s.pending := rfl

/-! ## modLane -/

@[simp] theorem modLane_rstHeld (s : State) (i : LaneIdx) (f : Lane → Lane) : (s.modLane i f).rstHeld = s.rstHeld := rfl
@[simp] theorem modLane_now (s : State) (i : LaneIdx) (f : Lane → Lane) : (s.modLane i f).now = s.now := rfl
@[simp] theorem modLane_host (s : State) (i : LaneIdx) (f : Lane → Lane) : (s.modLane i f).host = s.host := rfl
@[simp] theorem modLane_yard (s : State) (i : LaneIdx) (f : Lane → Lane) : (s.modLane i f).yard = s.yard := rfl
@[simp] theorem modLane_tables (s : State) (i : LaneIdx) (f : Lane → Lane) : (s.modLane i f).tables = s.tables := rfl
@[simp] theorem modLane_holdPeriod (s : State) (i : LaneIdx) (f : Lane → Lane) : (s.modLane i f).holdPeriod = s.holdPeriod := rfl
@[simp] theorem modLane_sightings (s : State) (i : LaneIdx) (f : Lane → Lane) : (s.modLane i f).sightings = s.sightings := rfl
@[simp] theorem modLane_lastDrop (s : State) (i : LaneIdx) (f : Lane → Lane) : (s.modLane i f).lastDrop = s.lastDrop := rfl
@[simp] theorem modLane_checkPos (s : State) (i : LaneIdx) (f : Lane → Lane) : (s.modLane i f).checkPos = s.checkPos := rfl
@[simp] theorem modLane_parkOrder (s : State) (i : LaneIdx) (f : Lane → Lane) : (s.modLane i f).parkOrder = s.parkOrder := rfl
@[simp] theorem modLane_store (s : State) (i : LaneIdx) (f : Lane → Lane) : (s.modLane i f).store = s.store := rfl
@[simp] theorem modLane_finalOrder (s : State) (i : LaneIdx) (f : Lane → Lane) : (s.modLane i f).finalOrder = s.finalOrder := rfl
@[simp] theorem modLane_stationA (s : State) (i : LaneIdx) (f : Lane → Lane) : (s.modLane i f).stationA = s.stationA := rfl
@[simp] theorem modLane_stationB (s : State) (i : LaneIdx) (f : Lane → Lane) : (s.modLane i f).stationB = s.stationB := rfl
@[simp] theorem modLane_choices (s : State) (i : LaneIdx) (f : Lane → Lane) : (s.modLane i f).choices = s.choices := rfl
@[simp] theorem modLane_pending (s : State) (i : LaneIdx) (f : Lane → Lane) : (s.modLane i f).pending = s.pending := rfl

/-! ## setStation -/

@[simp] theorem setStation_rstHeld (s : State) (x : StationId) (t : Station) : (s.setStation x t).rstHeld = s.rstHeld := by cases x <;> rfl
@[simp] theorem setStation_now (s : State) (x : StationId) (t : Station) : (s.setStation x t).now = s.now := by cases x <;> rfl
@[simp] theorem setStation_host (s : State) (x : StationId) (t : Station) : (s.setStation x t).host = s.host := by cases x <;> rfl
@[simp] theorem setStation_yard (s : State) (x : StationId) (t : Station) : (s.setStation x t).yard = s.yard := by cases x <;> rfl
@[simp] theorem setStation_lanes (s : State) (x : StationId) (t : Station) : (s.setStation x t).lanes = s.lanes := by cases x <;> rfl
@[simp] theorem setStation_tables (s : State) (x : StationId) (t : Station) : (s.setStation x t).tables = s.tables := by cases x <;> rfl
@[simp] theorem setStation_holdPeriod (s : State) (x : StationId) (t : Station) : (s.setStation x t).holdPeriod = s.holdPeriod := by cases x <;> rfl
@[simp] theorem setStation_sightings (s : State) (x : StationId) (t : Station) : (s.setStation x t).sightings = s.sightings := by cases x <;> rfl
@[simp] theorem setStation_lastDrop (s : State) (x : StationId) (t : Station) : (s.setStation x t).lastDrop = s.lastDrop := by cases x <;> rfl
@[simp] theorem setStation_checkPos (s : State) (x : StationId) (t : Station) : (s.setStation x t).checkPos = s.checkPos := by cases x <;> rfl
@[simp] theorem setStation_parkOrder (s : State) (x : StationId) (t : Station) : (s.setStation x t).parkOrder = s.parkOrder := by cases x <;> rfl
@[simp] theorem setStation_store (s : State) (x : StationId) (t : Station) : (s.setStation x t).store = s.store := by cases x <;> rfl
@[simp] theorem setStation_finalOrder (s : State) (x : StationId) (t : Station) : (s.setStation x t).finalOrder = s.finalOrder := by cases x <;> rfl
@[simp] theorem setStation_choices (s : State) (x : StationId) (t : Station) : (s.setStation x t).choices = s.choices := by cases x <;> rfl
@[simp] theorem setStation_pending (s : State) (x : StationId) (t : Station) : (s.setStation x t).pending = s.pending := by cases x <;> rfl

/-! ## modStation -/

@[simp] theorem modStation_rstHeld (s : State) (x : StationId) (f : Station → Station) : (s.modStation x f).rstHeld = s.rstHeld := by cases x <;> rfl
@[simp] theorem modStation_now (s : State) (x : StationId) (f : Station → Station) : (s.modStation x f).now = s.now := by cases x <;> rfl
@[simp] theorem modStation_host (s : State) (x : StationId) (f : Station → Station) : (s.modStation x f).host = s.host := by cases x <;> rfl
@[simp] theorem modStation_yard (s : State) (x : StationId) (f : Station → Station) : (s.modStation x f).yard = s.yard := by cases x <;> rfl
@[simp] theorem modStation_lanes (s : State) (x : StationId) (f : Station → Station) : (s.modStation x f).lanes = s.lanes := by cases x <;> rfl
@[simp] theorem modStation_tables (s : State) (x : StationId) (f : Station → Station) : (s.modStation x f).tables = s.tables := by cases x <;> rfl
@[simp] theorem modStation_holdPeriod (s : State) (x : StationId) (f : Station → Station) : (s.modStation x f).holdPeriod = s.holdPeriod := by cases x <;> rfl
@[simp] theorem modStation_sightings (s : State) (x : StationId) (f : Station → Station) : (s.modStation x f).sightings = s.sightings := by cases x <;> rfl
@[simp] theorem modStation_lastDrop (s : State) (x : StationId) (f : Station → Station) : (s.modStation x f).lastDrop = s.lastDrop := by cases x <;> rfl
@[simp] theorem modStation_checkPos (s : State) (x : StationId) (f : Station → Station) : (s.modStation x f).checkPos = s.checkPos := by cases x <;> rfl
@[simp] theorem modStation_parkOrder (s : State) (x : StationId) (f : Station → Station) : (s.modStation x f).parkOrder = s.parkOrder := by cases x <;> rfl
@[simp] theorem modStation_store (s : State) (x : StationId) (f : Station → Station) : (s.modStation x f).store = s.store := by cases x <;> rfl
@[simp] theorem modStation_finalOrder (s : State) (x : StationId) (f : Station → Station) : (s.modStation x f).finalOrder = s.finalOrder := by cases x <;> rfl
@[simp] theorem modStation_choices (s : State) (x : StationId) (f : Station → Station) : (s.modStation x f).choices = s.choices := by cases x <;> rfl
@[simp] theorem modStation_pending (s : State) (x : StationId) (f : Station → Station) : (s.modStation x f).pending = s.pending := by cases x <;> rfl

/-! ## setRecord -/

@[simp] theorem setRecord_rstHeld (s : State) (k : SlotIdx) (r : SettleRec) : (s.setRecord k r).rstHeld = s.rstHeld := rfl
@[simp] theorem setRecord_now (s : State) (k : SlotIdx) (r : SettleRec) : (s.setRecord k r).now = s.now := rfl
@[simp] theorem setRecord_host (s : State) (k : SlotIdx) (r : SettleRec) : (s.setRecord k r).host = s.host := rfl
@[simp] theorem setRecord_yard (s : State) (k : SlotIdx) (r : SettleRec) : (s.setRecord k r).yard = s.yard := rfl
@[simp] theorem setRecord_lanes (s : State) (k : SlotIdx) (r : SettleRec) : (s.setRecord k r).lanes = s.lanes := rfl
@[simp] theorem setRecord_tables (s : State) (k : SlotIdx) (r : SettleRec) : (s.setRecord k r).tables = s.tables := rfl
@[simp] theorem setRecord_holdPeriod (s : State) (k : SlotIdx) (r : SettleRec) : (s.setRecord k r).holdPeriod = s.holdPeriod := rfl
@[simp] theorem setRecord_sightings (s : State) (k : SlotIdx) (r : SettleRec) : (s.setRecord k r).sightings = s.sightings := rfl
@[simp] theorem setRecord_lastDrop (s : State) (k : SlotIdx) (r : SettleRec) : (s.setRecord k r).lastDrop = s.lastDrop := rfl
@[simp] theorem setRecord_checkPos (s : State) (k : SlotIdx) (r : SettleRec) : (s.setRecord k r).checkPos = s.checkPos := rfl
@[simp] theorem setRecord_parkOrder (s : State) (k : SlotIdx) (r : SettleRec) : (s.setRecord k r).parkOrder = s.parkOrder := rfl
@[simp] theorem setRecord_finalOrder (s : State) (k : SlotIdx) (r : SettleRec) : (s.setRecord k r).finalOrder = s.finalOrder := rfl
@[simp] theorem setRecord_stationA (s : State) (k : SlotIdx) (r : SettleRec) : (s.setRecord k r).stationA = s.stationA := rfl
@[simp] theorem setRecord_stationB (s : State) (k : SlotIdx) (r : SettleRec) : (s.setRecord k r).stationB = s.stationB := rfl
@[simp] theorem setRecord_choices (s : State) (k : SlotIdx) (r : SettleRec) : (s.setRecord k r).choices = s.choices := rfl
@[simp] theorem setRecord_pending (s : State) (k : SlotIdx) (r : SettleRec) : (s.setRecord k r).pending = s.pending := rfl

/-! ## countYard -/

@[simp] theorem countYard_rstHeld (s : State) (c : YardCtr) : (s.countYard c).rstHeld = s.rstHeld := rfl
@[simp] theorem countYard_now (s : State) (c : YardCtr) : (s.countYard c).now = s.now := rfl
@[simp] theorem countYard_host (s : State) (c : YardCtr) : (s.countYard c).host = s.host := rfl
@[simp] theorem countYard_lanes (s : State) (c : YardCtr) : (s.countYard c).lanes = s.lanes := rfl
@[simp] theorem countYard_tables (s : State) (c : YardCtr) : (s.countYard c).tables = s.tables := rfl
@[simp] theorem countYard_holdPeriod (s : State) (c : YardCtr) : (s.countYard c).holdPeriod = s.holdPeriod := rfl
@[simp] theorem countYard_sightings (s : State) (c : YardCtr) : (s.countYard c).sightings = s.sightings := rfl
@[simp] theorem countYard_lastDrop (s : State) (c : YardCtr) : (s.countYard c).lastDrop = s.lastDrop := rfl
@[simp] theorem countYard_checkPos (s : State) (c : YardCtr) : (s.countYard c).checkPos = s.checkPos := rfl
@[simp] theorem countYard_parkOrder (s : State) (c : YardCtr) : (s.countYard c).parkOrder = s.parkOrder := rfl
@[simp] theorem countYard_store (s : State) (c : YardCtr) : (s.countYard c).store = s.store := rfl
@[simp] theorem countYard_finalOrder (s : State) (c : YardCtr) : (s.countYard c).finalOrder = s.finalOrder := rfl
@[simp] theorem countYard_stationA (s : State) (c : YardCtr) : (s.countYard c).stationA = s.stationA := rfl
@[simp] theorem countYard_stationB (s : State) (c : YardCtr) : (s.countYard c).stationB = s.stationB := rfl
@[simp] theorem countYard_choices (s : State) (c : YardCtr) : (s.countYard c).choices = s.choices := rfl
@[simp] theorem countYard_pending (s : State) (c : YardCtr) : (s.countYard c).pending = s.pending := rfl

/-! ## count -/

@[simp] theorem count_rstHeld (s : State) (i : LaneIdx) (c : LaneCtr) : (s.count i c).rstHeld = s.rstHeld := rfl
@[simp] theorem count_now (s : State) (i : LaneIdx) (c : LaneCtr) : (s.count i c).now = s.now := rfl
@[simp] theorem count_host (s : State) (i : LaneIdx) (c : LaneCtr) : (s.count i c).host = s.host := rfl
@[simp] theorem count_yard (s : State) (i : LaneIdx) (c : LaneCtr) : (s.count i c).yard = s.yard := rfl
@[simp] theorem count_tables (s : State) (i : LaneIdx) (c : LaneCtr) : (s.count i c).tables = s.tables := rfl
@[simp] theorem count_holdPeriod (s : State) (i : LaneIdx) (c : LaneCtr) : (s.count i c).holdPeriod = s.holdPeriod := rfl
@[simp] theorem count_sightings (s : State) (i : LaneIdx) (c : LaneCtr) : (s.count i c).sightings = s.sightings := rfl
@[simp] theorem count_lastDrop (s : State) (i : LaneIdx) (c : LaneCtr) : (s.count i c).lastDrop = s.lastDrop := rfl
@[simp] theorem count_checkPos (s : State) (i : LaneIdx) (c : LaneCtr) : (s.count i c).checkPos = s.checkPos := rfl
@[simp] theorem count_parkOrder (s : State) (i : LaneIdx) (c : LaneCtr) : (s.count i c).parkOrder = s.parkOrder := rfl
@[simp] theorem count_store (s : State) (i : LaneIdx) (c : LaneCtr) : (s.count i c).store = s.store := rfl
@[simp] theorem count_finalOrder (s : State) (i : LaneIdx) (c : LaneCtr) : (s.count i c).finalOrder = s.finalOrder := rfl
@[simp] theorem count_stationA (s : State) (i : LaneIdx) (c : LaneCtr) : (s.count i c).stationA = s.stationA := rfl
@[simp] theorem count_stationB (s : State) (i : LaneIdx) (c : LaneCtr) : (s.count i c).stationB = s.stationB := rfl
@[simp] theorem count_choices (s : State) (i : LaneIdx) (c : LaneCtr) : (s.count i c).choices = s.choices := rfl
@[simp] theorem count_pending (s : State) (i : LaneIdx) (c : LaneCtr) : (s.count i c).pending = s.pending := rfl

/-! ## setGate -/

@[simp] theorem setGate_rstHeld (s : State) (i : LaneIdx) (g : Gate) : (s.setGate i g).rstHeld = s.rstHeld := rfl
@[simp] theorem setGate_now (s : State) (i : LaneIdx) (g : Gate) : (s.setGate i g).now = s.now := rfl
@[simp] theorem setGate_host (s : State) (i : LaneIdx) (g : Gate) : (s.setGate i g).host = s.host := rfl
@[simp] theorem setGate_yard (s : State) (i : LaneIdx) (g : Gate) : (s.setGate i g).yard = s.yard := rfl
@[simp] theorem setGate_tables (s : State) (i : LaneIdx) (g : Gate) : (s.setGate i g).tables = s.tables := rfl
@[simp] theorem setGate_holdPeriod (s : State) (i : LaneIdx) (g : Gate) : (s.setGate i g).holdPeriod = s.holdPeriod := rfl
@[simp] theorem setGate_sightings (s : State) (i : LaneIdx) (g : Gate) : (s.setGate i g).sightings = s.sightings := rfl
@[simp] theorem setGate_lastDrop (s : State) (i : LaneIdx) (g : Gate) : (s.setGate i g).lastDrop = s.lastDrop := rfl
@[simp] theorem setGate_checkPos (s : State) (i : LaneIdx) (g : Gate) : (s.setGate i g).checkPos = s.checkPos := rfl
@[simp] theorem setGate_parkOrder (s : State) (i : LaneIdx) (g : Gate) : (s.setGate i g).parkOrder = s.parkOrder := rfl
@[simp] theorem setGate_store (s : State) (i : LaneIdx) (g : Gate) : (s.setGate i g).store = s.store := rfl
@[simp] theorem setGate_finalOrder (s : State) (i : LaneIdx) (g : Gate) : (s.setGate i g).finalOrder = s.finalOrder := rfl
@[simp] theorem setGate_stationA (s : State) (i : LaneIdx) (g : Gate) : (s.setGate i g).stationA = s.stationA := rfl
@[simp] theorem setGate_stationB (s : State) (i : LaneIdx) (g : Gate) : (s.setGate i g).stationB = s.stationB := rfl
@[simp] theorem setGate_choices (s : State) (i : LaneIdx) (g : Gate) : (s.setGate i g).choices = s.choices := rfl
@[simp] theorem setGate_pending (s : State) (i : LaneIdx) (g : Gate) : (s.setGate i g).pending = s.pending := rfl

/-! ## modCounting -/

@[simp] theorem modCounting_rstHeld (s : State) (i : LaneIdx) (f : DropRec → DropRec) : (s.modCounting i f).rstHeld = s.rstHeld := rfl
@[simp] theorem modCounting_now (s : State) (i : LaneIdx) (f : DropRec → DropRec) : (s.modCounting i f).now = s.now := rfl
@[simp] theorem modCounting_host (s : State) (i : LaneIdx) (f : DropRec → DropRec) : (s.modCounting i f).host = s.host := rfl
@[simp] theorem modCounting_yard (s : State) (i : LaneIdx) (f : DropRec → DropRec) : (s.modCounting i f).yard = s.yard := rfl
@[simp] theorem modCounting_tables (s : State) (i : LaneIdx) (f : DropRec → DropRec) : (s.modCounting i f).tables = s.tables := rfl
@[simp] theorem modCounting_holdPeriod (s : State) (i : LaneIdx) (f : DropRec → DropRec) : (s.modCounting i f).holdPeriod = s.holdPeriod := rfl
@[simp] theorem modCounting_sightings (s : State) (i : LaneIdx) (f : DropRec → DropRec) : (s.modCounting i f).sightings = s.sightings := rfl
@[simp] theorem modCounting_lastDrop (s : State) (i : LaneIdx) (f : DropRec → DropRec) : (s.modCounting i f).lastDrop = s.lastDrop := rfl
@[simp] theorem modCounting_checkPos (s : State) (i : LaneIdx) (f : DropRec → DropRec) : (s.modCounting i f).checkPos = s.checkPos := rfl
@[simp] theorem modCounting_parkOrder (s : State) (i : LaneIdx) (f : DropRec → DropRec) : (s.modCounting i f).parkOrder = s.parkOrder := rfl
@[simp] theorem modCounting_store (s : State) (i : LaneIdx) (f : DropRec → DropRec) : (s.modCounting i f).store = s.store := rfl
@[simp] theorem modCounting_finalOrder (s : State) (i : LaneIdx) (f : DropRec → DropRec) : (s.modCounting i f).finalOrder = s.finalOrder := rfl
@[simp] theorem modCounting_stationA (s : State) (i : LaneIdx) (f : DropRec → DropRec) : (s.modCounting i f).stationA = s.stationA := rfl
@[simp] theorem modCounting_stationB (s : State) (i : LaneIdx) (f : DropRec → DropRec) : (s.modCounting i f).stationB = s.stationB := rfl
@[simp] theorem modCounting_choices (s : State) (i : LaneIdx) (f : DropRec → DropRec) : (s.modCounting i f).choices = s.choices := rfl
@[simp] theorem modCounting_pending (s : State) (i : LaneIdx) (f : DropRec → DropRec) : (s.modCounting i f).pending = s.pending := rfl

/-! ## send -/

@[simp] theorem send_rstHeld (s : State) (x : StationId) (f : StationTx) : (s.send x f).rstHeld = s.rstHeld := by cases x <;> rfl
@[simp] theorem send_now (s : State) (x : StationId) (f : StationTx) : (s.send x f).now = s.now := by cases x <;> rfl
@[simp] theorem send_host (s : State) (x : StationId) (f : StationTx) : (s.send x f).host = s.host := by cases x <;> rfl
@[simp] theorem send_yard (s : State) (x : StationId) (f : StationTx) : (s.send x f).yard = s.yard := by cases x <;> rfl
@[simp] theorem send_lanes (s : State) (x : StationId) (f : StationTx) : (s.send x f).lanes = s.lanes := by cases x <;> rfl
@[simp] theorem send_tables (s : State) (x : StationId) (f : StationTx) : (s.send x f).tables = s.tables := by cases x <;> rfl
@[simp] theorem send_holdPeriod (s : State) (x : StationId) (f : StationTx) : (s.send x f).holdPeriod = s.holdPeriod := by cases x <;> rfl
@[simp] theorem send_sightings (s : State) (x : StationId) (f : StationTx) : (s.send x f).sightings = s.sightings := by cases x <;> rfl
@[simp] theorem send_lastDrop (s : State) (x : StationId) (f : StationTx) : (s.send x f).lastDrop = s.lastDrop := by cases x <;> rfl
@[simp] theorem send_checkPos (s : State) (x : StationId) (f : StationTx) : (s.send x f).checkPos = s.checkPos := by cases x <;> rfl
@[simp] theorem send_parkOrder (s : State) (x : StationId) (f : StationTx) : (s.send x f).parkOrder = s.parkOrder := by cases x <;> rfl
@[simp] theorem send_store (s : State) (x : StationId) (f : StationTx) : (s.send x f).store = s.store := by cases x <;> rfl
@[simp] theorem send_finalOrder (s : State) (x : StationId) (f : StationTx) : (s.send x f).finalOrder = s.finalOrder := by cases x <;> rfl
@[simp] theorem send_choices (s : State) (x : StationId) (f : StationTx) : (s.send x f).choices = s.choices := by cases x <;> rfl
@[simp] theorem send_pending (s : State) (x : StationId) (f : StationTx) : (s.send x f).pending = s.pending := by cases x <;> rfl

/-! ## setStationState -/

@[simp] theorem setStationState_rstHeld (s : State) (x : StationId) (st : StationState) : (s.setStationState x st).rstHeld = s.rstHeld := by cases x <;> rfl
@[simp] theorem setStationState_now (s : State) (x : StationId) (st : StationState) : (s.setStationState x st).now = s.now := by cases x <;> rfl
@[simp] theorem setStationState_host (s : State) (x : StationId) (st : StationState) : (s.setStationState x st).host = s.host := by cases x <;> rfl
@[simp] theorem setStationState_yard (s : State) (x : StationId) (st : StationState) : (s.setStationState x st).yard = s.yard := by cases x <;> rfl
@[simp] theorem setStationState_lanes (s : State) (x : StationId) (st : StationState) : (s.setStationState x st).lanes = s.lanes := by cases x <;> rfl
@[simp] theorem setStationState_tables (s : State) (x : StationId) (st : StationState) : (s.setStationState x st).tables = s.tables := by cases x <;> rfl
@[simp] theorem setStationState_holdPeriod (s : State) (x : StationId) (st : StationState) : (s.setStationState x st).holdPeriod = s.holdPeriod := by cases x <;> rfl
@[simp] theorem setStationState_sightings (s : State) (x : StationId) (st : StationState) : (s.setStationState x st).sightings = s.sightings := by cases x <;> rfl
@[simp] theorem setStationState_lastDrop (s : State) (x : StationId) (st : StationState) : (s.setStationState x st).lastDrop = s.lastDrop := by cases x <;> rfl
@[simp] theorem setStationState_checkPos (s : State) (x : StationId) (st : StationState) : (s.setStationState x st).checkPos = s.checkPos := by cases x <;> rfl
@[simp] theorem setStationState_parkOrder (s : State) (x : StationId) (st : StationState) : (s.setStationState x st).parkOrder = s.parkOrder := by cases x <;> rfl
@[simp] theorem setStationState_store (s : State) (x : StationId) (st : StationState) : (s.setStationState x st).store = s.store := by cases x <;> rfl
@[simp] theorem setStationState_finalOrder (s : State) (x : StationId) (st : StationState) : (s.setStationState x st).finalOrder = s.finalOrder := by cases x <;> rfl
@[simp] theorem setStationState_choices (s : State) (x : StationId) (st : StationState) : (s.setStationState x st).choices = s.choices := by cases x <;> rfl
@[simp] theorem setStationState_pending (s : State) (x : StationId) (st : StationState) : (s.setStationState x st).pending = s.pending := by cases x <;> rfl

/-! ## becomeFinal -/

@[simp] theorem becomeFinal_rstHeld (s : State) (k : SlotIdx) (r : SettleRec) (st : RecordState) : (s.becomeFinal k r st).rstHeld = s.rstHeld := rfl
@[simp] theorem becomeFinal_now (s : State) (k : SlotIdx) (r : SettleRec) (st : RecordState) : (s.becomeFinal k r st).now = s.now := rfl
@[simp] theorem becomeFinal_host (s : State) (k : SlotIdx) (r : SettleRec) (st : RecordState) : (s.becomeFinal k r st).host = s.host := rfl
@[simp] theorem becomeFinal_yard (s : State) (k : SlotIdx) (r : SettleRec) (st : RecordState) : (s.becomeFinal k r st).yard = s.yard := rfl
@[simp] theorem becomeFinal_lanes (s : State) (k : SlotIdx) (r : SettleRec) (st : RecordState) : (s.becomeFinal k r st).lanes = s.lanes := rfl
@[simp] theorem becomeFinal_tables (s : State) (k : SlotIdx) (r : SettleRec) (st : RecordState) : (s.becomeFinal k r st).tables = s.tables := rfl
@[simp] theorem becomeFinal_holdPeriod (s : State) (k : SlotIdx) (r : SettleRec) (st : RecordState) : (s.becomeFinal k r st).holdPeriod = s.holdPeriod := rfl
@[simp] theorem becomeFinal_sightings (s : State) (k : SlotIdx) (r : SettleRec) (st : RecordState) : (s.becomeFinal k r st).sightings = s.sightings := rfl
@[simp] theorem becomeFinal_lastDrop (s : State) (k : SlotIdx) (r : SettleRec) (st : RecordState) : (s.becomeFinal k r st).lastDrop = s.lastDrop := rfl
@[simp] theorem becomeFinal_checkPos (s : State) (k : SlotIdx) (r : SettleRec) (st : RecordState) : (s.becomeFinal k r st).checkPos = s.checkPos := rfl
@[simp] theorem becomeFinal_parkOrder (s : State) (k : SlotIdx) (r : SettleRec) (st : RecordState) : (s.becomeFinal k r st).parkOrder = s.parkOrder := rfl
@[simp] theorem becomeFinal_stationA (s : State) (k : SlotIdx) (r : SettleRec) (st : RecordState) : (s.becomeFinal k r st).stationA = s.stationA := rfl
@[simp] theorem becomeFinal_stationB (s : State) (k : SlotIdx) (r : SettleRec) (st : RecordState) : (s.becomeFinal k r st).stationB = s.stationB := rfl
@[simp] theorem becomeFinal_choices (s : State) (k : SlotIdx) (r : SettleRec) (st : RecordState) : (s.becomeFinal k r st).choices = s.choices := rfl
@[simp] theorem becomeFinal_pending (s : State) (k : SlotIdx) (r : SettleRec) (st : RecordState) : (s.becomeFinal k r st).pending = s.pending := rfl

/-! ## leaveQueues -/

@[simp] theorem leaveQueues_rstHeld (s : State) (k : SlotIdx) : (s.leaveQueues k).rstHeld = s.rstHeld := rfl
@[simp] theorem leaveQueues_now (s : State) (k : SlotIdx) : (s.leaveQueues k).now = s.now := rfl
@[simp] theorem leaveQueues_host (s : State) (k : SlotIdx) : (s.leaveQueues k).host = s.host := rfl
@[simp] theorem leaveQueues_yard (s : State) (k : SlotIdx) : (s.leaveQueues k).yard = s.yard := rfl
@[simp] theorem leaveQueues_lanes (s : State) (k : SlotIdx) : (s.leaveQueues k).lanes = s.lanes := rfl
@[simp] theorem leaveQueues_tables (s : State) (k : SlotIdx) : (s.leaveQueues k).tables = s.tables := rfl
@[simp] theorem leaveQueues_holdPeriod (s : State) (k : SlotIdx) : (s.leaveQueues k).holdPeriod = s.holdPeriod := rfl
@[simp] theorem leaveQueues_sightings (s : State) (k : SlotIdx) : (s.leaveQueues k).sightings = s.sightings := rfl
@[simp] theorem leaveQueues_lastDrop (s : State) (k : SlotIdx) : (s.leaveQueues k).lastDrop = s.lastDrop := rfl
@[simp] theorem leaveQueues_checkPos (s : State) (k : SlotIdx) : (s.leaveQueues k).checkPos = s.checkPos := rfl
@[simp] theorem leaveQueues_parkOrder (s : State) (k : SlotIdx) : (s.leaveQueues k).parkOrder = s.parkOrder := rfl
@[simp] theorem leaveQueues_store (s : State) (k : SlotIdx) : (s.leaveQueues k).store = s.store := rfl
@[simp] theorem leaveQueues_finalOrder (s : State) (k : SlotIdx) : (s.leaveQueues k).finalOrder = s.finalOrder := rfl
@[simp] theorem leaveQueues_choices (s : State) (k : SlotIdx) : (s.leaveQueues k).choices = s.choices := rfl
@[simp] theorem leaveQueues_pending (s : State) (k : SlotIdx) : (s.leaveQueues k).pending = s.pending := rfl

/-! ## removeRecord -/

@[simp] theorem removeRecord_rstHeld (s : State) (k : SlotIdx) : (s.removeRecord k).rstHeld = s.rstHeld := rfl
@[simp] theorem removeRecord_now (s : State) (k : SlotIdx) : (s.removeRecord k).now = s.now := rfl
@[simp] theorem removeRecord_host (s : State) (k : SlotIdx) : (s.removeRecord k).host = s.host := rfl
@[simp] theorem removeRecord_yard (s : State) (k : SlotIdx) : (s.removeRecord k).yard = s.yard := rfl
@[simp] theorem removeRecord_lanes (s : State) (k : SlotIdx) : (s.removeRecord k).lanes = s.lanes := rfl
@[simp] theorem removeRecord_tables (s : State) (k : SlotIdx) : (s.removeRecord k).tables = s.tables := rfl
@[simp] theorem removeRecord_holdPeriod (s : State) (k : SlotIdx) : (s.removeRecord k).holdPeriod = s.holdPeriod := rfl
@[simp] theorem removeRecord_sightings (s : State) (k : SlotIdx) : (s.removeRecord k).sightings = s.sightings := rfl
@[simp] theorem removeRecord_lastDrop (s : State) (k : SlotIdx) : (s.removeRecord k).lastDrop = s.lastDrop := rfl
@[simp] theorem removeRecord_checkPos (s : State) (k : SlotIdx) : (s.removeRecord k).checkPos = s.checkPos := rfl
@[simp] theorem removeRecord_parkOrder (s : State) (k : SlotIdx) : (s.removeRecord k).parkOrder = s.parkOrder := rfl
@[simp] theorem removeRecord_stationA (s : State) (k : SlotIdx) : (s.removeRecord k).stationA = s.stationA := rfl
@[simp] theorem removeRecord_stationB (s : State) (k : SlotIdx) : (s.removeRecord k).stationB = s.stationB := rfl
@[simp] theorem removeRecord_choices (s : State) (k : SlotIdx) : (s.removeRecord k).choices = s.choices := rfl
@[simp] theorem removeRecord_pending (s : State) (k : SlotIdx) : (s.removeRecord k).pending = s.pending := rfl

/-! ## removeSightings -/

@[simp] theorem removeSightings_rstHeld (s : State) (n : Nat) : (s.removeSightings n).rstHeld = s.rstHeld := rfl
@[simp] theorem removeSightings_now (s : State) (n : Nat) : (s.removeSightings n).now = s.now := rfl
@[simp] theorem removeSightings_host (s : State) (n : Nat) : (s.removeSightings n).host = s.host := rfl
@[simp] theorem removeSightings_yard (s : State) (n : Nat) : (s.removeSightings n).yard = s.yard := rfl
@[simp] theorem removeSightings_lanes (s : State) (n : Nat) : (s.removeSightings n).lanes = s.lanes := rfl
@[simp] theorem removeSightings_tables (s : State) (n : Nat) : (s.removeSightings n).tables = s.tables := rfl
@[simp] theorem removeSightings_holdPeriod (s : State) (n : Nat) : (s.removeSightings n).holdPeriod = s.holdPeriod := rfl
@[simp] theorem removeSightings_lastDrop (s : State) (n : Nat) : (s.removeSightings n).lastDrop = s.lastDrop := rfl
@[simp] theorem removeSightings_checkPos (s : State) (n : Nat) : (s.removeSightings n).checkPos = s.checkPos := rfl
@[simp] theorem removeSightings_parkOrder (s : State) (n : Nat) : (s.removeSightings n).parkOrder = s.parkOrder := rfl
@[simp] theorem removeSightings_store (s : State) (n : Nat) : (s.removeSightings n).store = s.store := rfl
@[simp] theorem removeSightings_finalOrder (s : State) (n : Nat) : (s.removeSightings n).finalOrder = s.finalOrder := rfl
@[simp] theorem removeSightings_stationA (s : State) (n : Nat) : (s.removeSightings n).stationA = s.stationA := rfl
@[simp] theorem removeSightings_stationB (s : State) (n : Nat) : (s.removeSightings n).stationB = s.stationB := rfl
@[simp] theorem removeSightings_choices (s : State) (n : Nat) : (s.removeSightings n).choices = s.choices := rfl
@[simp] theorem removeSightings_pending (s : State) (n : Nat) : (s.removeSightings n).pending = s.pending := rfl

/-! ## detachSightings -/

@[simp] theorem detachSightings_rstHeld (s : State) (n : Nat) : (s.detachSightings n).rstHeld = s.rstHeld := rfl
@[simp] theorem detachSightings_now (s : State) (n : Nat) : (s.detachSightings n).now = s.now := rfl
@[simp] theorem detachSightings_host (s : State) (n : Nat) : (s.detachSightings n).host = s.host := rfl
@[simp] theorem detachSightings_yard (s : State) (n : Nat) : (s.detachSightings n).yard = s.yard := rfl
@[simp] theorem detachSightings_lanes (s : State) (n : Nat) : (s.detachSightings n).lanes = s.lanes := rfl
@[simp] theorem detachSightings_tables (s : State) (n : Nat) : (s.detachSightings n).tables = s.tables := rfl
@[simp] theorem detachSightings_holdPeriod (s : State) (n : Nat) : (s.detachSightings n).holdPeriod = s.holdPeriod := rfl
@[simp] theorem detachSightings_lastDrop (s : State) (n : Nat) : (s.detachSightings n).lastDrop = s.lastDrop := rfl
@[simp] theorem detachSightings_checkPos (s : State) (n : Nat) : (s.detachSightings n).checkPos = s.checkPos := rfl
@[simp] theorem detachSightings_parkOrder (s : State) (n : Nat) : (s.detachSightings n).parkOrder = s.parkOrder := rfl
@[simp] theorem detachSightings_store (s : State) (n : Nat) : (s.detachSightings n).store = s.store := rfl
@[simp] theorem detachSightings_finalOrder (s : State) (n : Nat) : (s.detachSightings n).finalOrder = s.finalOrder := rfl
@[simp] theorem detachSightings_stationA (s : State) (n : Nat) : (s.detachSightings n).stationA = s.stationA := rfl
@[simp] theorem detachSightings_stationB (s : State) (n : Nat) : (s.detachSightings n).stationB = s.stationB := rfl
@[simp] theorem detachSightings_choices (s : State) (n : Nat) : (s.detachSightings n).choices = s.choices := rfl
@[simp] theorem detachSightings_pending (s : State) (n : Nat) : (s.detachSightings n).pending = s.pending := rfl

/-! ## setClasses -/

@[simp] theorem setClasses_rstHeld (s : State) (t : Table ClassEntry) : (s.setClasses t).rstHeld = s.rstHeld := rfl
@[simp] theorem setClasses_now (s : State) (t : Table ClassEntry) : (s.setClasses t).now = s.now := rfl
@[simp] theorem setClasses_host (s : State) (t : Table ClassEntry) : (s.setClasses t).host = s.host := rfl
@[simp] theorem setClasses_yard (s : State) (t : Table ClassEntry) : (s.setClasses t).yard = s.yard := rfl
@[simp] theorem setClasses_lanes (s : State) (t : Table ClassEntry) : (s.setClasses t).lanes = s.lanes := rfl
@[simp] theorem setClasses_holdPeriod (s : State) (t : Table ClassEntry) : (s.setClasses t).holdPeriod = s.holdPeriod := rfl
@[simp] theorem setClasses_sightings (s : State) (t : Table ClassEntry) : (s.setClasses t).sightings = s.sightings := rfl
@[simp] theorem setClasses_lastDrop (s : State) (t : Table ClassEntry) : (s.setClasses t).lastDrop = s.lastDrop := rfl
@[simp] theorem setClasses_checkPos (s : State) (t : Table ClassEntry) : (s.setClasses t).checkPos = s.checkPos := rfl
@[simp] theorem setClasses_parkOrder (s : State) (t : Table ClassEntry) : (s.setClasses t).parkOrder = s.parkOrder := rfl
@[simp] theorem setClasses_store (s : State) (t : Table ClassEntry) : (s.setClasses t).store = s.store := rfl
@[simp] theorem setClasses_finalOrder (s : State) (t : Table ClassEntry) : (s.setClasses t).finalOrder = s.finalOrder := rfl
@[simp] theorem setClasses_stationA (s : State) (t : Table ClassEntry) : (s.setClasses t).stationA = s.stationA := rfl
@[simp] theorem setClasses_stationB (s : State) (t : Table ClassEntry) : (s.setClasses t).stationB = s.stationB := rfl
@[simp] theorem setClasses_choices (s : State) (t : Table ClassEntry) : (s.setClasses t).choices = s.choices := rfl
@[simp] theorem setClasses_pending (s : State) (t : Table ClassEntry) : (s.setClasses t).pending = s.pending := rfl

/-! ## setMarks -/

@[simp] theorem setMarks_rstHeld (s : State) (t : Table MarkEntry) : (s.setMarks t).rstHeld = s.rstHeld := rfl
@[simp] theorem setMarks_now (s : State) (t : Table MarkEntry) : (s.setMarks t).now = s.now := rfl
@[simp] theorem setMarks_host (s : State) (t : Table MarkEntry) : (s.setMarks t).host = s.host := rfl
@[simp] theorem setMarks_yard (s : State) (t : Table MarkEntry) : (s.setMarks t).yard = s.yard := rfl
@[simp] theorem setMarks_lanes (s : State) (t : Table MarkEntry) : (s.setMarks t).lanes = s.lanes := rfl
@[simp] theorem setMarks_holdPeriod (s : State) (t : Table MarkEntry) : (s.setMarks t).holdPeriod = s.holdPeriod := rfl
@[simp] theorem setMarks_sightings (s : State) (t : Table MarkEntry) : (s.setMarks t).sightings = s.sightings := rfl
@[simp] theorem setMarks_lastDrop (s : State) (t : Table MarkEntry) : (s.setMarks t).lastDrop = s.lastDrop := rfl
@[simp] theorem setMarks_checkPos (s : State) (t : Table MarkEntry) : (s.setMarks t).checkPos = s.checkPos := rfl
@[simp] theorem setMarks_parkOrder (s : State) (t : Table MarkEntry) : (s.setMarks t).parkOrder = s.parkOrder := rfl
@[simp] theorem setMarks_store (s : State) (t : Table MarkEntry) : (s.setMarks t).store = s.store := rfl
@[simp] theorem setMarks_finalOrder (s : State) (t : Table MarkEntry) : (s.setMarks t).finalOrder = s.finalOrder := rfl
@[simp] theorem setMarks_stationA (s : State) (t : Table MarkEntry) : (s.setMarks t).stationA = s.stationA := rfl
@[simp] theorem setMarks_stationB (s : State) (t : Table MarkEntry) : (s.setMarks t).stationB = s.stationB := rfl
@[simp] theorem setMarks_choices (s : State) (t : Table MarkEntry) : (s.setMarks t).choices = s.choices := rfl
@[simp] theorem setMarks_pending (s : State) (t : Table MarkEntry) : (s.setMarks t).pending = s.pending := rfl

/-! ## setPools -/

@[simp] theorem setPools_rstHeld (s : State) (t : Table PoolEntry) : (s.setPools t).rstHeld = s.rstHeld := rfl
@[simp] theorem setPools_now (s : State) (t : Table PoolEntry) : (s.setPools t).now = s.now := rfl
@[simp] theorem setPools_host (s : State) (t : Table PoolEntry) : (s.setPools t).host = s.host := rfl
@[simp] theorem setPools_yard (s : State) (t : Table PoolEntry) : (s.setPools t).yard = s.yard := rfl
@[simp] theorem setPools_lanes (s : State) (t : Table PoolEntry) : (s.setPools t).lanes = s.lanes := rfl
@[simp] theorem setPools_holdPeriod (s : State) (t : Table PoolEntry) : (s.setPools t).holdPeriod = s.holdPeriod := rfl
@[simp] theorem setPools_sightings (s : State) (t : Table PoolEntry) : (s.setPools t).sightings = s.sightings := rfl
@[simp] theorem setPools_lastDrop (s : State) (t : Table PoolEntry) : (s.setPools t).lastDrop = s.lastDrop := rfl
@[simp] theorem setPools_checkPos (s : State) (t : Table PoolEntry) : (s.setPools t).checkPos = s.checkPos := rfl
@[simp] theorem setPools_parkOrder (s : State) (t : Table PoolEntry) : (s.setPools t).parkOrder = s.parkOrder := rfl
@[simp] theorem setPools_store (s : State) (t : Table PoolEntry) : (s.setPools t).store = s.store := rfl
@[simp] theorem setPools_finalOrder (s : State) (t : Table PoolEntry) : (s.setPools t).finalOrder = s.finalOrder := rfl
@[simp] theorem setPools_stationA (s : State) (t : Table PoolEntry) : (s.setPools t).stationA = s.stationA := rfl
@[simp] theorem setPools_stationB (s : State) (t : Table PoolEntry) : (s.setPools t).stationB = s.stationB := rfl
@[simp] theorem setPools_choices (s : State) (t : Table PoolEntry) : (s.setPools t).choices = s.choices := rfl
@[simp] theorem setPools_pending (s : State) (t : Table PoolEntry) : (s.setPools t).pending = s.pending := rfl

/-! ## setAccounts -/

@[simp] theorem setAccounts_rstHeld (s : State) (t : Table AccountEntry) : (s.setAccounts t).rstHeld = s.rstHeld := rfl
@[simp] theorem setAccounts_now (s : State) (t : Table AccountEntry) : (s.setAccounts t).now = s.now := rfl
@[simp] theorem setAccounts_host (s : State) (t : Table AccountEntry) : (s.setAccounts t).host = s.host := rfl
@[simp] theorem setAccounts_yard (s : State) (t : Table AccountEntry) : (s.setAccounts t).yard = s.yard := rfl
@[simp] theorem setAccounts_lanes (s : State) (t : Table AccountEntry) : (s.setAccounts t).lanes = s.lanes := rfl
@[simp] theorem setAccounts_holdPeriod (s : State) (t : Table AccountEntry) : (s.setAccounts t).holdPeriod = s.holdPeriod := rfl
@[simp] theorem setAccounts_sightings (s : State) (t : Table AccountEntry) : (s.setAccounts t).sightings = s.sightings := rfl
@[simp] theorem setAccounts_lastDrop (s : State) (t : Table AccountEntry) : (s.setAccounts t).lastDrop = s.lastDrop := rfl
@[simp] theorem setAccounts_checkPos (s : State) (t : Table AccountEntry) : (s.setAccounts t).checkPos = s.checkPos := rfl
@[simp] theorem setAccounts_parkOrder (s : State) (t : Table AccountEntry) : (s.setAccounts t).parkOrder = s.parkOrder := rfl
@[simp] theorem setAccounts_store (s : State) (t : Table AccountEntry) : (s.setAccounts t).store = s.store := rfl
@[simp] theorem setAccounts_finalOrder (s : State) (t : Table AccountEntry) : (s.setAccounts t).finalOrder = s.finalOrder := rfl
@[simp] theorem setAccounts_stationA (s : State) (t : Table AccountEntry) : (s.setAccounts t).stationA = s.stationA := rfl
@[simp] theorem setAccounts_stationB (s : State) (t : Table AccountEntry) : (s.setAccounts t).stationB = s.stationB := rfl
@[simp] theorem setAccounts_choices (s : State) (t : Table AccountEntry) : (s.setAccounts t).choices = s.choices := rfl
@[simp] theorem setAccounts_pending (s : State) (t : Table AccountEntry) : (s.setAccounts t).pending = s.pending := rfl

/-! ## repace -/

@[simp] theorem repace_rstHeld (s : State)  : (s.repace).rstHeld = s.rstHeld := rfl
@[simp] theorem repace_now (s : State)  : (s.repace).now = s.now := rfl
@[simp] theorem repace_host (s : State)  : (s.repace).host = s.host := rfl
@[simp] theorem repace_yard (s : State)  : (s.repace).yard = s.yard := rfl
@[simp] theorem repace_tables (s : State)  : (s.repace).tables = s.tables := rfl
@[simp] theorem repace_holdPeriod (s : State)  : (s.repace).holdPeriod = s.holdPeriod := rfl
@[simp] theorem repace_sightings (s : State)  : (s.repace).sightings = s.sightings := rfl
@[simp] theorem repace_lastDrop (s : State)  : (s.repace).lastDrop = s.lastDrop := rfl
@[simp] theorem repace_checkPos (s : State)  : (s.repace).checkPos = s.checkPos := rfl
@[simp] theorem repace_parkOrder (s : State)  : (s.repace).parkOrder = s.parkOrder := rfl
@[simp] theorem repace_store (s : State)  : (s.repace).store = s.store := rfl
@[simp] theorem repace_finalOrder (s : State)  : (s.repace).finalOrder = s.finalOrder := rfl
@[simp] theorem repace_stationA (s : State)  : (s.repace).stationA = s.stationA := rfl
@[simp] theorem repace_stationB (s : State)  : (s.repace).stationB = s.stationB := rfl
@[simp] theorem repace_choices (s : State)  : (s.repace).choices = s.choices := rfl
@[simp] theorem repace_pending (s : State)  : (s.repace).pending = s.pending := rfl

/-! ## replied -/

@[simp] theorem replied_rstHeld (s : State) (kind tag : Byte) (status : Status) (result : Result) : (s.replied kind tag status result).rstHeld = s.rstHeld := rfl
@[simp] theorem replied_now (s : State) (kind tag : Byte) (status : Status) (result : Result) : (s.replied kind tag status result).now = s.now := rfl
@[simp] theorem replied_yard (s : State) (kind tag : Byte) (status : Status) (result : Result) : (s.replied kind tag status result).yard = s.yard := rfl
@[simp] theorem replied_lanes (s : State) (kind tag : Byte) (status : Status) (result : Result) : (s.replied kind tag status result).lanes = s.lanes := rfl
@[simp] theorem replied_tables (s : State) (kind tag : Byte) (status : Status) (result : Result) : (s.replied kind tag status result).tables = s.tables := rfl
@[simp] theorem replied_holdPeriod (s : State) (kind tag : Byte) (status : Status) (result : Result) : (s.replied kind tag status result).holdPeriod = s.holdPeriod := rfl
@[simp] theorem replied_sightings (s : State) (kind tag : Byte) (status : Status) (result : Result) : (s.replied kind tag status result).sightings = s.sightings := rfl
@[simp] theorem replied_lastDrop (s : State) (kind tag : Byte) (status : Status) (result : Result) : (s.replied kind tag status result).lastDrop = s.lastDrop := rfl
@[simp] theorem replied_checkPos (s : State) (kind tag : Byte) (status : Status) (result : Result) : (s.replied kind tag status result).checkPos = s.checkPos := rfl
@[simp] theorem replied_parkOrder (s : State) (kind tag : Byte) (status : Status) (result : Result) : (s.replied kind tag status result).parkOrder = s.parkOrder := rfl
@[simp] theorem replied_store (s : State) (kind tag : Byte) (status : Status) (result : Result) : (s.replied kind tag status result).store = s.store := rfl
@[simp] theorem replied_finalOrder (s : State) (kind tag : Byte) (status : Status) (result : Result) : (s.replied kind tag status result).finalOrder = s.finalOrder := rfl
@[simp] theorem replied_stationA (s : State) (kind tag : Byte) (status : Status) (result : Result) : (s.replied kind tag status result).stationA = s.stationA := rfl
@[simp] theorem replied_stationB (s : State) (kind tag : Byte) (status : Status) (result : Result) : (s.replied kind tag status result).stationB = s.stationB := rfl
@[simp] theorem replied_choices (s : State) (kind tag : Byte) (status : Status) (result : Result) : (s.replied kind tag status result).choices = s.choices := rfl
@[simp] theorem replied_pending (s : State) (kind tag : Byte) (status : Status) (result : Result) : (s.replied kind tag status result).pending = s.pending := rfl

/-! ## Reading a lane or a station back -/

theorem lane_eq (s : State) (i : LaneIdx) : s.lane i = s.lanes[i.val] := rfl

@[simp] theorem lane_setLane_same (s : State) (i : LaneIdx) (l : Lane) : (s.setLane i l).lane i = l := by
  simp [lane_eq, State.setLane]

theorem lane_setLane_ne (s : State) {i j : LaneIdx} (l : Lane) (h : i ≠ j) : (s.setLane i l).lane j = s.lane j := by
  have h' : (i : Nat) ≠ j := fun e => h (Fin.ext e)
  simp [lane_eq, State.setLane, h']

@[simp] theorem lane_modLane_same (s : State) (i : LaneIdx) (f : Lane → Lane) : (s.modLane i f).lane i = f (s.lane i) := by
  simp [State.modLane]

theorem lane_modLane_ne (s : State) {i j : LaneIdx} (f : Lane → Lane) (h : i ≠ j) : (s.modLane i f).lane j = s.lane j :=
  lane_setLane_ne s _ h

@[simp] theorem setLane_setLane (s : State) (i : LaneIdx) (l m : Lane) : (s.setLane i l).setLane i m = s.setLane i m := by
  simp [State.setLane]

@[simp] theorem modLane_modLane (s : State) (i : LaneIdx) (f g : Lane → Lane) :
    (s.modLane i f).modLane i g = s.modLane i (fun l => g (f l)) := by
  simp [State.modLane]

/-- Two changes of a lane that agree on the lane as it stands are one. -/
theorem modLane_congr {s : State} {i : LaneIdx} {f g : Lane → Lane} (h : f (s.lane i) = g (s.lane i)) : s.modLane i f = s.modLane i g := by
  simp only [State.modLane, h]

/-- A change of a lane that leaves it as it stands is none. -/
theorem modLane_self {s : State} {i : LaneIdx} {f : Lane → Lane} (h : f (s.lane i) = s.lane i) : s.modLane i f = s := by
  have e : s.lanes.set i.val (s.lanes.get i) i.isLt = s.lanes := by
    apply Vector.ext
    intro j hj
    by_cases hij : i.val = j
    · subst hij; simp [Vector.get]
    · simp [Vector.getElem_set_ne, hij]
  have h' : s.modLane i f = { s with lanes := s.lanes.set i.val (s.lanes.get i) i.isLt } := by
    show s.setLane i (f (s.lane i)) = _
    rw [h]
    rfl
  rw [h', e]

@[simp] theorem lane_repace (s : State) (i : LaneIdx) : s.repace.lane i = (s.lane i).repace := by
  simp [lane_eq, State.repace]

@[simp] theorem station_setStation_same (s : State) (x : StationId) (t : Station) : (s.setStation x t).station x = t := by
  cases x <;> rfl

theorem station_setStation_ne (s : State) {x y : StationId} (t : Station) (h : x ≠ y) :
    (s.setStation x t).station y = s.station y := by
  cases x <;> cases y <;> first | rfl | exact absurd rfl h

@[simp] theorem station_modStation_same (s : State) (x : StationId) (f : Station → Station) :
    (s.modStation x f).station x = f (s.station x) := by
  simp [State.modStation]

theorem station_modStation_ne (s : State) {x y : StationId} (f : Station → Station) (h : x ≠ y) :
    (s.modStation x f).station y = s.station y :=
  station_setStation_ne s _ h

@[simp] theorem modStation_modStation (s : State) (x : StationId) (f g : Station → Station) :
    (s.modStation x f).modStation x g = s.modStation x (fun t => g (f t)) := by cases x <;> rfl

theorem modStation_congr {s : State} {x : StationId} {f g : Station → Station} (h : f (s.station x) = g (s.station x)) :
    s.modStation x f = s.modStation x g := by
  simp only [State.modStation, h]

theorem modStation_self {s : State} {x : StationId} {f : Station → Station} (h : f (s.station x) = s.station x) :
    s.modStation x f = s := by
  simp only [State.modStation, h]
  cases x <;> rfl

@[simp] theorem station_setLane (s : State) (i : LaneIdx) (l : Lane) (x : StationId) : (s.setLane i l).station x = s.station x := by
  cases x <;> rfl

@[simp] theorem station_modLane (s : State) (i : LaneIdx) (f : Lane → Lane) (x : StationId) :
    (s.modLane i f).station x = s.station x := by
  cases x <;> rfl

@[simp] theorem lane_setStation (s : State) (x : StationId) (t : Station) (i : LaneIdx) : (s.setStation x t).lane i = s.lane i := by
  cases x <;> rfl

@[simp] theorem lane_modStation (s : State) (x : StationId) (f : Station → Station) (i : LaneIdx) :
    (s.modStation x f).lane i = s.lane i := by
  cases x <;> rfl

@[simp] theorem lane_setRecord (s : State) (k : SlotIdx) (r : SettleRec) (i : LaneIdx) : (s.setRecord k r).lane i = s.lane i := rfl

@[simp] theorem lane_countYard (s : State) (c : YardCtr) (i : LaneIdx) : (s.countYard c).lane i = s.lane i := rfl

@[simp] theorem lane_replied (s : State) (kind tag : Byte) (status : Status) (result : Result) (i : LaneIdx) :
    (s.replied kind tag status result).lane i = s.lane i := rfl

end Sys2Proof.Machine
end

