-- ==== Sys2Proof/Laws/Ops.lean ====
section
/-! SUPPORT. What each shared operation of Ops can do: events, requests, posting, the journal, the end of an event. -/

namespace Sys2Proof.Machine

/-! ## Events -/

theorem event_running (f : State → State) {s : State} (h : s.rstHeld = false) : event f s = .next (finish (f s)) := by
  simp [event, h]

theorem event_held (f : State → State) {s : State} (h : s.rstHeld = true) : event f s = .next s := by
  simp [event, h]

/-- An event never stops. -/
theorem event_answers (f : State → State) (s : State) : ∃ t, event f s = .next t := by
  unfold event; split <;> exact ⟨_, rfl⟩

/-! ## Posting -/

theorem enqueue_cases (s : State) (b : NoticeBody) :
    ∃ host yard, s.enqueue b = { s with host := host, yard := yard } ∧
      host.rx = s.host.rx ∧ host.reqBuf = s.host.reqBuf ∧ host.reply = s.host.reply ∧ host.tx = s.host.tx ∧
      host.filter = s.host.filter ∧ host.clock = s.host.clock ∧ host.clockBase = s.host.clockBase := by
  unfold State.enqueue
  dsimp only
  split
  · exact ⟨_, _, rfl, rfl, rfl, rfl, rfl, rfl, rfl, rfl⟩
  · split <;> exact ⟨_, _, rfl, rfl, rfl, rfl, rfl, rfl, rfl, rfl⟩

/-- Posting a notice changes the notice queue with its numbering and latch, and the yard counters, and nothing else. -/
theorem post_cases (s : State) (b : NoticeBody) :
    ∃ host yard, s.post b = { s with host := host, yard := yard } ∧
      host.rx = s.host.rx ∧ host.reqBuf = s.host.reqBuf ∧ host.reply = s.host.reply ∧ host.tx = s.host.tx ∧
      host.filter = s.host.filter ∧ host.clock = s.host.clock ∧ host.clockBase = s.host.clockBase := by
  unfold State.post
  split
  · exact enqueue_cases s b
  · exact ⟨s.host, s.yard, rfl, rfl, rfl, rfl, rfl, rfl, rfl, rfl⟩

theorem postAll_cases (s : State) (bs : List NoticeBody) :
    ∃ host yard, s.postAll bs = { s with host := host, yard := yard } ∧
      host.rx = s.host.rx ∧ host.reqBuf = s.host.reqBuf ∧ host.reply = s.host.reply ∧ host.tx = s.host.tx ∧
      host.filter = s.host.filter ∧ host.clock = s.host.clock ∧ host.clockBase = s.host.clockBase := by
  induction bs generalizing s with
  | nil => exact ⟨s.host, s.yard, rfl, rfl, rfl, rfl, rfl, rfl, rfl, rfl⟩
  | cons b bs ih =>
    obtain ⟨h1, y1, e1, p1⟩ := post_cases s b
    obtain ⟨h2, y2, e2, p2⟩ := ih (s.post b)
    refine ⟨h2, y2, ?_, ?_⟩
    · show (s.post b).postAll bs = _
      rw [e2, e1]
    · rw [e1] at p2
      simp only at p2
      obtain ⟨a1, a2, a3, a4, a5, a6, a7⟩ := p1
      obtain ⟨b1, b2, b3, b4, b5, b6, b7⟩ := p2
      exact ⟨b1.trans a1, b2.trans a2, b3.trans a3, b4.trans a4, b5.trans a5, b6.trans a6, b7.trans a7⟩

@[simp] theorem post_rstHeld (s : State) (b : NoticeBody) : (s.post b).rstHeld = s.rstHeld := by
  obtain ⟨h, y, e, -⟩ := post_cases s b; rw [e]
@[simp] theorem post_now (s : State) (b : NoticeBody) : (s.post b).now = s.now := by
  obtain ⟨h, y, e, -⟩ := post_cases s b; rw [e]
@[simp] theorem post_lanes (s : State) (b : NoticeBody) : (s.post b).lanes = s.lanes := by
  obtain ⟨h, y, e, -⟩ := post_cases s b; rw [e]
@[simp] theorem post_tables (s : State) (b : NoticeBody) : (s.post b).tables = s.tables := by
  obtain ⟨h, y, e, -⟩ := post_cases s b; rw [e]
@[simp] theorem post_holdPeriod (s : State) (b : NoticeBody) : (s.post b).holdPeriod = s.holdPeriod := by
  obtain ⟨h, y, e, -⟩ := post_cases s b; rw [e]
@[simp] theorem post_sightings (s : State) (b : NoticeBody) : (s.post b).sightings = s.sightings := by
  obtain ⟨h, y, e, -⟩ := post_cases s b; rw [e]
@[simp] theorem post_lastDrop (s : State) (b : NoticeBody) : (s.post b).lastDrop = s.lastDrop := by
  obtain ⟨h, y, e, -⟩ := post_cases s b; rw [e]
@[simp] theorem post_checkPos (s : State) (b : NoticeBody) : (s.post b).checkPos = s.checkPos := by
  obtain ⟨h, y, e, -⟩ := post_cases s b; rw [e]
@[simp] theorem post_parkOrder (s : State) (b : NoticeBody) : (s.post b).parkOrder = s.parkOrder := by
  obtain ⟨h, y, e, -⟩ := post_cases s b; rw [e]
@[simp] theorem post_store (s : State) (b : NoticeBody) : (s.post b).store = s.store := by
  obtain ⟨h, y, e, -⟩ := post_cases s b; rw [e]
@[simp] theorem post_finalOrder (s : State) (b : NoticeBody) : (s.post b).finalOrder = s.finalOrder := by
  obtain ⟨h, y, e, -⟩ := post_cases s b; rw [e]
@[simp] theorem post_stationA (s : State) (b : NoticeBody) : (s.post b).stationA = s.stationA := by
  obtain ⟨h, y, e, -⟩ := post_cases s b; rw [e]
@[simp] theorem post_stationB (s : State) (b : NoticeBody) : (s.post b).stationB = s.stationB := by
  obtain ⟨h, y, e, -⟩ := post_cases s b; rw [e]
@[simp] theorem post_choices (s : State) (b : NoticeBody) : (s.post b).choices = s.choices := by
  obtain ⟨h, y, e, -⟩ := post_cases s b; rw [e]
@[simp] theorem post_pending (s : State) (b : NoticeBody) : (s.post b).pending = s.pending := by
  obtain ⟨h, y, e, -⟩ := post_cases s b; rw [e]
@[simp] theorem post_host_rx (s : State) (b : NoticeBody) : (s.post b).host.rx = s.host.rx := by
  obtain ⟨h, y, e, p, -, -, -, -, -, -⟩ := post_cases s b; rw [e]; exact p
@[simp] theorem post_host_reqBuf (s : State) (b : NoticeBody) : (s.post b).host.reqBuf = s.host.reqBuf := by
  obtain ⟨h, y, e, -, p, -, -, -, -, -⟩ := post_cases s b; rw [e]; exact p
@[simp] theorem post_host_reply (s : State) (b : NoticeBody) : (s.post b).host.reply = s.host.reply := by
  obtain ⟨h, y, e, -, -, p, -, -, -, -⟩ := post_cases s b; rw [e]; exact p
@[simp] theorem post_host_tx (s : State) (b : NoticeBody) : (s.post b).host.tx = s.host.tx := by
  obtain ⟨h, y, e, -, -, -, p, -, -, -⟩ := post_cases s b; rw [e]; exact p
@[simp] theorem post_host_filter (s : State) (b : NoticeBody) : (s.post b).host.filter = s.host.filter := by
  obtain ⟨h, y, e, -, -, -, -, p, -, -⟩ := post_cases s b; rw [e]; exact p
@[simp] theorem post_host_clock (s : State) (b : NoticeBody) : (s.post b).host.clock = s.host.clock := by
  obtain ⟨h, y, e, -, -, -, -, -, p, -⟩ := post_cases s b; rw [e]; exact p
@[simp] theorem post_host_clockBase (s : State) (b : NoticeBody) : (s.post b).host.clockBase = s.host.clockBase := by
  obtain ⟨h, y, e, -, -, -, -, -, -, p⟩ := post_cases s b; rw [e]; exact p
@[simp] theorem lane_post (s : State) (b : NoticeBody) (i : LaneIdx) : (s.post b).lane i = s.lane i := by
  simp [State.lane]
@[simp] theorem station_post (s : State) (b : NoticeBody) (x : StationId) : (s.post b).station x = s.station x := by
  cases x <;> simp [State.station]

@[simp] theorem postAll_rstHeld (s : State) (bs : List NoticeBody) : (s.postAll bs).rstHeld = s.rstHeld := by
  obtain ⟨h, y, e, -⟩ := postAll_cases s bs; rw [e]
@[simp] theorem postAll_now (s : State) (bs : List NoticeBody) : (s.postAll bs).now = s.now := by
  obtain ⟨h, y, e, -⟩ := postAll_cases s bs; rw [e]
@[simp] theorem postAll_lanes (s : State) (bs : List NoticeBody) : (s.postAll bs).lanes = s.lanes := by
  obtain ⟨h, y, e, -⟩ := postAll_cases s bs; rw [e]
@[simp] theorem postAll_tables (s : State) (bs : List NoticeBody) : (s.postAll bs).tables = s.tables := by
  obtain ⟨h, y, e, -⟩ := postAll_cases s bs; rw [e]
@[simp] theorem postAll_holdPeriod (s : State) (bs : List NoticeBody) : (s.postAll bs).holdPeriod = s.holdPeriod := by
  obtain ⟨h, y, e, -⟩ := postAll_cases s bs; rw [e]
@[simp] theorem postAll_sightings (s : State) (bs : List NoticeBody) : (s.postAll bs).sightings = s.sightings := by
  obtain ⟨h, y, e, -⟩ := postAll_cases s bs; rw [e]
@[simp] theorem postAll_lastDrop (s : State) (bs : List NoticeBody) : (s.postAll bs).lastDrop = s.lastDrop := by
  obtain ⟨h, y, e, -⟩ := postAll_cases s bs; rw [e]
@[simp] theorem postAll_checkPos (s : State) (bs : List NoticeBody) : (s.postAll bs).checkPos = s.checkPos := by
  obtain ⟨h, y, e, -⟩ := postAll_cases s bs; rw [e]
@[simp] theorem postAll_parkOrder (s : State) (bs : List NoticeBody) : (s.postAll bs).parkOrder = s.parkOrder := by
  obtain ⟨h, y, e, -⟩ := postAll_cases s bs; rw [e]
@[simp] theorem postAll_store (s : State) (bs : List NoticeBody) : (s.postAll bs).store = s.store := by
  obtain ⟨h, y, e, -⟩ := postAll_cases s bs; rw [e]
@[simp] theorem postAll_finalOrder (s : State) (bs : List NoticeBody) : (s.postAll bs).finalOrder = s.finalOrder := by
  obtain ⟨h, y, e, -⟩ := postAll_cases s bs; rw [e]
@[simp] theorem postAll_stationA (s : State) (bs : List NoticeBody) : (s.postAll bs).stationA = s.stationA := by
  obtain ⟨h, y, e, -⟩ := postAll_cases s bs; rw [e]
@[simp] theorem postAll_stationB (s : State) (bs : List NoticeBody) : (s.postAll bs).stationB = s.stationB := by
  obtain ⟨h, y, e, -⟩ := postAll_cases s bs; rw [e]
@[simp] theorem postAll_choices (s : State) (bs : List NoticeBody) : (s.postAll bs).choices = s.choices := by
  obtain ⟨h, y, e, -⟩ := postAll_cases s bs; rw [e]
@[simp] theorem postAll_pending (s : State) (bs : List NoticeBody) : (s.postAll bs).pending = s.pending := by
  obtain ⟨h, y, e, -⟩ := postAll_cases s bs; rw [e]
@[simp] theorem postAll_host_rx (s : State) (bs : List NoticeBody) : (s.postAll bs).host.rx = s.host.rx := by
  obtain ⟨h, y, e, p, -, -, -, -, -, -⟩ := postAll_cases s bs; rw [e]; exact p
@[simp] theorem postAll_host_reqBuf (s : State) (bs : List NoticeBody) : (s.postAll bs).host.reqBuf = s.host.reqBuf := by
  obtain ⟨h, y, e, -, p, -, -, -, -, -⟩ := postAll_cases s bs; rw [e]; exact p
@[simp] theorem postAll_host_reply (s : State) (bs : List NoticeBody) : (s.postAll bs).host.reply = s.host.reply := by
  obtain ⟨h, y, e, -, -, p, -, -, -, -⟩ := postAll_cases s bs; rw [e]; exact p
@[simp] theorem postAll_host_tx (s : State) (bs : List NoticeBody) : (s.postAll bs).host.tx = s.host.tx := by
  obtain ⟨h, y, e, -, -, -, p, -, -, -⟩ := postAll_cases s bs; rw [e]; exact p
@[simp] theorem postAll_host_filter (s : State) (bs : List NoticeBody) : (s.postAll bs).host.filter = s.host.filter := by
  obtain ⟨h, y, e, -, -, -, -, p, -, -⟩ := postAll_cases s bs; rw [e]; exact p
@[simp] theorem postAll_host_clock (s : State) (bs : List NoticeBody) : (s.postAll bs).host.clock = s.host.clock := by
  obtain ⟨h, y, e, -, -, -, -, -, p, -⟩ := postAll_cases s bs; rw [e]; exact p
@[simp] theorem postAll_host_clockBase (s : State) (bs : List NoticeBody) : (s.postAll bs).host.clockBase = s.host.clockBase := by
  obtain ⟨h, y, e, -, -, -, -, -, -, p⟩ := postAll_cases s bs; rw [e]; exact p
@[simp] theorem lane_postAll (s : State) (bs : List NoticeBody) (i : LaneIdx) : (s.postAll bs).lane i = s.lane i := by
  simp [State.lane]
@[simp] theorem station_postAll (s : State) (bs : List NoticeBody) (x : StationId) : (s.postAll bs).station x = s.station x := by
  cases x <;> simp [State.station]

/-- A notice of a disabled group is not posted (R178). -/
theorem post_disabled {s : State} {b : NoticeBody} (h : s.host.filter.getLsbD b.group = false) : s.post b = s := by
  simp [State.post, h]

/-- With fewer than 63 notices held and the latch clear, a notice joins the tail with the next number (R178). -/
theorem enqueue_joins {s : State} {b : NoticeBody} (hl : s.host.latch = false) (h : s.host.notices.length < 63) :
    s.enqueue b = { s with host := { s.host with
      nextNotice := nextNumber s.host.nextNotice, notices := s.host.notices ++ [⟨s.host.nextNotice, s.stamp, b⟩] } } := by
  have h' : s.host.notices.length < Config.noticeQueue - 1 := h
  simp [State.enqueue, hl, h']

/-! ## The journal -/

@[simp] theorem append_length_le (j : Journal) (stamp : Stamp) (body : JournalBody) : (j.append stamp body).entries.length ≤ 256 := by
  unfold Journal.append
  dsimp only
  split
  · simp [Config.journalSize] at *; omega
  · simp [Config.journalSize] at *; omega

@[simp] theorem write_entries (j : Journal) (i : LaneIdx) (stamp : Stamp) (body : JournalBody) :
    (j.write i stamp body).1.entries = (j.append stamp body).entries := rfl

/-- The number after a sequence number is the next one below the top of the range. -/
theorem nextSequence_below {n : Nat} (h : n < 281474976710655) : nextSequence n = n + 1 := by
  unfold nextSequence Config.fitFrom Config.sequenceMax
  split <;> omega

/-- Whatever the free value is, every sequence number lies in 1 to 2^48 - 1 (log 12). -/
theorem nextSequence_range (n : Nat) : 1 ≤ nextSequence n ∧ nextSequence n ≤ 281474976710655 := by
  unfold nextSequence Config.fitFrom Config.sequenceMax
  split <;> omega

/-- What a journal write leaves of a lane: the journal apart, all of it. -/
theorem lane_journalWrite_same (s : State) (i : LaneIdx) (b : JournalBody) :
    (s.journalWrite i b).lane i = { s.lane i with journal := ((s.lane i).journal.write i s.stamp b).1 } := by
  simp [State.journalWrite]

theorem lane_journalWrite_ne (s : State) {i j : LaneIdx} (b : JournalBody) (h : i ≠ j) :
    (s.journalWrite i b).lane j = s.lane j := by
  simp [State.journalWrite, lane_modLane_ne _ _ h]

@[simp] theorem station_journalWrite (s : State) (i : LaneIdx) (b : JournalBody) (x : StationId) :
    (s.journalWrite i b).station x = s.station x := by
  simp [State.journalWrite]

@[simp] theorem journalWrite_rstHeld (s : State) (i : LaneIdx) (b : JournalBody) : (s.journalWrite i b).rstHeld = s.rstHeld := by
  simp [State.journalWrite]
@[simp] theorem journalWrite_now (s : State) (i : LaneIdx) (b : JournalBody) : (s.journalWrite i b).now = s.now := by
  simp [State.journalWrite]
@[simp] theorem journalWrite_tables (s : State) (i : LaneIdx) (b : JournalBody) : (s.journalWrite i b).tables = s.tables := by
  simp [State.journalWrite]
@[simp] theorem journalWrite_holdPeriod (s : State) (i : LaneIdx) (b : JournalBody) : (s.journalWrite i b).holdPeriod = s.holdPeriod := by
  simp [State.journalWrite]
@[simp] theorem journalWrite_sightings (s : State) (i : LaneIdx) (b : JournalBody) : (s.journalWrite i b).sightings = s.sightings := by
  simp [State.journalWrite]
@[simp] theorem journalWrite_lastDrop (s : State) (i : LaneIdx) (b : JournalBody) : (s.journalWrite i b).lastDrop = s.lastDrop := by
  simp [State.journalWrite]
@[simp] theorem journalWrite_checkPos (s : State) (i : LaneIdx) (b : JournalBody) : (s.journalWrite i b).checkPos = s.checkPos := by
  simp [State.journalWrite]
@[simp] theorem journalWrite_parkOrder (s : State) (i : LaneIdx) (b : JournalBody) : (s.journalWrite i b).parkOrder = s.parkOrder := by
  simp [State.journalWrite]
@[simp] theorem journalWrite_store (s : State) (i : LaneIdx) (b : JournalBody) : (s.journalWrite i b).store = s.store := by
  simp [State.journalWrite]
@[simp] theorem journalWrite_finalOrder (s : State) (i : LaneIdx) (b : JournalBody) : (s.journalWrite i b).finalOrder = s.finalOrder := by
  simp [State.journalWrite]
@[simp] theorem journalWrite_stationA (s : State) (i : LaneIdx) (b : JournalBody) : (s.journalWrite i b).stationA = s.stationA := by
  simp [State.journalWrite]
@[simp] theorem journalWrite_stationB (s : State) (i : LaneIdx) (b : JournalBody) : (s.journalWrite i b).stationB = s.stationB := by
  simp [State.journalWrite]
@[simp] theorem journalWrite_choices (s : State) (i : LaneIdx) (b : JournalBody) : (s.journalWrite i b).choices = s.choices := by
  simp [State.journalWrite]
@[simp] theorem journalWrite_pending (s : State) (i : LaneIdx) (b : JournalBody) : (s.journalWrite i b).pending = s.pending := by
  simp [State.journalWrite]
@[simp] theorem journalWrite_host_rx (s : State) (i : LaneIdx) (b : JournalBody) :
    (s.journalWrite i b).host.rx = s.host.rx := by
  simp [State.journalWrite]
@[simp] theorem journalWrite_host_reqBuf (s : State) (i : LaneIdx) (b : JournalBody) :
    (s.journalWrite i b).host.reqBuf = s.host.reqBuf := by
  simp [State.journalWrite]
@[simp] theorem journalWrite_host_reply (s : State) (i : LaneIdx) (b : JournalBody) :
    (s.journalWrite i b).host.reply = s.host.reply := by
  simp [State.journalWrite]
@[simp] theorem journalWrite_host_tx (s : State) (i : LaneIdx) (b : JournalBody) :
    (s.journalWrite i b).host.tx = s.host.tx := by
  simp [State.journalWrite]
@[simp] theorem journalWrite_host_filter (s : State) (i : LaneIdx) (b : JournalBody) :
    (s.journalWrite i b).host.filter = s.host.filter := by
  simp [State.journalWrite]
@[simp] theorem journalWrite_host_clock (s : State) (i : LaneIdx) (b : JournalBody) :
    (s.journalWrite i b).host.clock = s.host.clock := by
  simp [State.journalWrite]
@[simp] theorem journalWrite_host_clockBase (s : State) (i : LaneIdx) (b : JournalBody) :
    (s.journalWrite i b).host.clockBase = s.host.clockBase := by
  simp [State.journalWrite]

/-! ## The end of an event -/

theorem startTx_cases (s : State) : ∃ host, s.startTx = { s with host := host } ∧
    host.rx = s.host.rx ∧ host.reqBuf = s.host.reqBuf ∧ host.filter = s.host.filter ∧ host.clock = s.host.clock ∧
    host.clockBase = s.host.clockBase ∧ host.nextNotice = s.host.nextNotice := by
  unfold State.startTx
  split
  · exact ⟨s.host, rfl, rfl, rfl, rfl, rfl, rfl, rfl⟩
  · split
    · exact ⟨_, rfl, rfl, rfl, rfl, rfl, rfl, rfl⟩
    · split
      · exact ⟨s.host, rfl, rfl, rfl, rfl, rfl, rfl, rfl⟩
      · exact ⟨_, rfl, rfl, rfl, rfl, rfl, rfl, rfl⟩

/-- What ends an event changes the pacing outputs, and the Host Link's transmitter, reply, notices and latch. -/
theorem finish_cases (s : State) : ∃ host, finish s = { s.repace with host := host } ∧
    host.rx = s.host.rx ∧ host.reqBuf = s.host.reqBuf ∧ host.filter = s.host.filter ∧ host.clock = s.host.clock ∧
    host.clockBase = s.host.clockBase ∧ host.nextNotice = s.host.nextNotice :=
  startTx_cases s.repace

@[simp] theorem finish_rstHeld (s : State) : (finish s).rstHeld = s.rstHeld := by
  obtain ⟨h, e, -⟩ := finish_cases s; rw [e]; rfl
@[simp] theorem finish_now (s : State) : (finish s).now = s.now := by
  obtain ⟨h, e, -⟩ := finish_cases s; rw [e]; rfl
@[simp] theorem finish_yard (s : State) : (finish s).yard = s.yard := by
  obtain ⟨h, e, -⟩ := finish_cases s; rw [e]; rfl
@[simp] theorem finish_tables (s : State) : (finish s).tables = s.tables := by
  obtain ⟨h, e, -⟩ := finish_cases s; rw [e]; rfl
@[simp] theorem finish_holdPeriod (s : State) : (finish s).holdPeriod = s.holdPeriod := by
  obtain ⟨h, e, -⟩ := finish_cases s; rw [e]; rfl
@[simp] theorem finish_sightings (s : State) : (finish s).sightings = s.sightings := by
  obtain ⟨h, e, -⟩ := finish_cases s; rw [e]; rfl
@[simp] theorem finish_lastDrop (s : State) : (finish s).lastDrop = s.lastDrop := by
  obtain ⟨h, e, -⟩ := finish_cases s; rw [e]; rfl
@[simp] theorem finish_checkPos (s : State) : (finish s).checkPos = s.checkPos := by
  obtain ⟨h, e, -⟩ := finish_cases s; rw [e]; rfl
@[simp] theorem finish_parkOrder (s : State) : (finish s).parkOrder = s.parkOrder := by
  obtain ⟨h, e, -⟩ := finish_cases s; rw [e]; rfl
@[simp] theorem finish_store (s : State) : (finish s).store = s.store := by
  obtain ⟨h, e, -⟩ := finish_cases s; rw [e]; rfl
@[simp] theorem finish_finalOrder (s : State) : (finish s).finalOrder = s.finalOrder := by
  obtain ⟨h, e, -⟩ := finish_cases s; rw [e]; rfl
@[simp] theorem finish_stationA (s : State) : (finish s).stationA = s.stationA := by
  obtain ⟨h, e, -⟩ := finish_cases s; rw [e]; rfl
@[simp] theorem finish_stationB (s : State) : (finish s).stationB = s.stationB := by
  obtain ⟨h, e, -⟩ := finish_cases s; rw [e]; rfl
@[simp] theorem finish_choices (s : State) : (finish s).choices = s.choices := by
  obtain ⟨h, e, -⟩ := finish_cases s; rw [e]; rfl
@[simp] theorem finish_pending (s : State) : (finish s).pending = s.pending := by
  obtain ⟨h, e, -⟩ := finish_cases s; rw [e]; rfl
@[simp] theorem finish_host_rx (s : State) : (finish s).host.rx = s.host.rx := by
  obtain ⟨h, e, p, -, -, -, -, -⟩ := finish_cases s; rw [e]; exact p
@[simp] theorem finish_host_reqBuf (s : State) : (finish s).host.reqBuf = s.host.reqBuf := by
  obtain ⟨h, e, -, p, -, -, -, -⟩ := finish_cases s; rw [e]; exact p
@[simp] theorem finish_host_filter (s : State) : (finish s).host.filter = s.host.filter := by
  obtain ⟨h, e, -, -, p, -, -, -⟩ := finish_cases s; rw [e]; exact p
@[simp] theorem finish_host_clock (s : State) : (finish s).host.clock = s.host.clock := by
  obtain ⟨h, e, -, -, -, p, -, -⟩ := finish_cases s; rw [e]; exact p
@[simp] theorem finish_host_clockBase (s : State) : (finish s).host.clockBase = s.host.clockBase := by
  obtain ⟨h, e, -, -, -, -, p, -⟩ := finish_cases s; rw [e]; exact p
@[simp] theorem finish_host_nextNotice (s : State) : (finish s).host.nextNotice = s.host.nextNotice := by
  obtain ⟨h, e, -, -, -, -, -, p⟩ := finish_cases s; rw [e]; exact p
@[simp] theorem lane_finish (s : State) (i : LaneIdx) : (finish s).lane i = (s.lane i).repace := by
  obtain ⟨h, e, -⟩ := finish_cases s
  rw [e]
  exact lane_repace s i

@[simp] theorem station_finish (s : State) (x : StationId) : (finish s).station x = s.station x := by
  cases x <;> simp [State.station]

/-- With the transmitter busy, the end of an event only brings the pacing outputs up to date. -/
theorem finish_busy {s : State} {f : TxFrame} (h : s.host.tx = some f) : finish s = s.repace := by
  unfold finish State.startTx
  rw [repace_host, h]

/-- A free transmitter begins the waiting reply (R177). -/
theorem finish_reply {s : State} {r : Reply} (h : s.host.tx = none) (hr : s.host.reply = some r) :
    finish s = { s.repace with host := { s.host with tx := some (.reply r), reply := none } } := by
  unfold finish State.startTx
  rw [repace_host, h]
  simp only [hr]

/-! ## Requests -/

theorem request_answers (c : Instr) (act : State → Answered) (after : State → State) (s : State) :
    ∃ t, request c act after s = .next t := by
  unfold request
  split
  · exact ⟨_, rfl⟩
  · split
    · exact ⟨_, rfl⟩
    · split
      · exact ⟨_, rfl⟩
      · split
        · exact ⟨_, rfl⟩
        · split <;> exact ⟨_, rfl⟩

/-- A request that arrives when the part is ready is taken in its own event (R176). -/
theorem request_ready {c : Instr} {f : Frame} {s : State} (act : State → Answered) (after : State → State)
    (hs : s.ready) (hf : encodeRequest c = some f) : request c act after s = .next (finish (takeRequest f act after s)) := by
  obtain ⟨h1, h2, h3⟩ := hs
  simp [request, h1, h2, h3, hf]

/-- A request taken with status OK: its reply is formed, and what follows the reply follows. -/
theorem takeRequest_ok {f : Frame} {act : State → Answered} {after : State → State} {s : State} (h : (act s).status = .ok) :
    takeRequest f act after s = after ((act s).state.replied f.kind f.tag .ok (act s).result) := by
  simp only [takeRequest, h, if_true, Answered.reply, State.replied]

/-- A request refused: its reply is formed, and nothing follows. -/
theorem takeRequest_refused {f : Frame} {act : State → Answered} {after : State → State} {s : State} (h : (act s).status ≠ .ok) :
    takeRequest f act after s = (act s).state.replied f.kind f.tag (act s).status (act s).result := by
  simp only [takeRequest, h, if_false, Answered.reply, State.replied]

/-! ## Abandoned items -/

theorem abandoned_eq (g : Gate) (now : Nat) : g.abandoned now = abandonedEntries g now := by cases g <;> rfl

/-- Abandoning writes each entry and counts each item, and then the gate is left with both stuck timers stopped (R14). -/
theorem abandonItems_eq (s : State) (i : LaneIdx) (g : Gate) :
    s.abandonItems i g = (s.abandoning i (abandonedEntries (s.lane i).gate s.now)).modLane i (fun l => { l with
      gate := g, grace := l.graceAfterAbandon, stuckA := none, stuckB := none }) := by
  rw [← abandoned_eq]; rfl

/-! ## What the part sends -/

theorem sized_succ (n v : Nat) : sized (n + 1) v = BitVec.ofNat 8 v :: sized n (v / 256) := by
  simp only [sized, List.range_succ_eq_map, List.map_cons, List.map_map, Nat.pow_zero, Nat.div_one]
  congr 1
  exact List.map_congr_left (fun k _ => by simp only [Function.comp, Nat.pow_succ, Nat.mul_comm (256 ^ k), Nat.div_div_eq_div_mul])

theorem leBytes_eq_sized (n v : Nat) : leBytes n v = sized n v := by
  induction n generalizing v with
  | zero => rfl
  | succ n ih => rw [sized_succ, ← ih]; rfl

@[simp] theorem sized_length (n v : Nat) : (sized n v).length = n := by simp [sized]

/-! ## The loss of a head -/

theorem mapItems_markLost (g : Gate) : g.mapItems FwdItem.markLost = headLostGate g := by cases g <;> rfl

/-- What a loss does, in one update, one entry and one notice (R21). -/
theorem declareLost_eq (s : State) (i : LaneIdx) (cause : HeadCause) :
    s.declareLost i cause = s.headLosing i cause (cause.record (s.lane i).lastFault) := by
  unfold State.declareLost State.headLosing State.dropEarly
  cases h : (s.lane i).early <;> simp only [lane_modLane_same, h, State.count, modLane_modLane, Option.isSome, mapItems_markLost, if_true,
    Bool.false_eq_true, if_false] <;> refine congrArg (fun t : State => (t.journalWrite i _).post _) ?_ <;>
    simp only [State.modLane, h] <;> rfl

/-! ## The balance of a record (R126) -/

/-- A credit move that leaves outstanding cash keeps the balance. -/
theorem balanced_partCredit {r : SettleRec} {sum : Nat} (h : r.balanced) (hs : sum < r.outstanding) :
    ({ r with outstanding := r.outstanding - sum, creditIssued := r.creditIssued + sum } : SettleRec).balanced := by
  obtain ⟨h1, h2, h3, h4, h5⟩ := h
  have live := h4.1 (by omega)
  have nh : r.state ≠ .held := by intro e; rw [e] at live; rcases live with l | l | l <;> cases l
  have nv : r.state ≠ .void := by intro e; rw [e] at live; rcases live with l | l | l <;> cases l
  have m := h1 nh
  unfold SettleRec.money at m
  refine ⟨fun _ => ?_, fun e => absurd e nh, fun e => absurd e nv, ⟨fun _ => live, fun _ => ?_⟩, ?_⟩
  · show r.cashPaid + (r.creditIssued + sum) + (r.outstanding - sum) + r.unresolvedAmount = r.amount
    omega
  · show 0 < r.outstanding - sum
    omega
  · show r.cashPaid + (r.outstanding - sum) ≤ r.cashPart
    omega

/-- The whole outstanding cash moves to one of the three other places and the record is final: the balance is kept. -/
theorem balanced_ended {r : SettleRec} (h : r.balanced) (hs : 0 < r.outstanding) (stamp : Option Nat) :
    ({ r with outstanding := 0, creditIssued := r.creditIssued + r.outstanding, state := .credited, finalStamp := stamp } : SettleRec).balanced ∧
    ({ r with cashPaid := r.cashPaid + r.outstanding, outstanding := 0, state := .paid, finalStamp := stamp } : SettleRec).balanced ∧
    ({ r with unresolvedAmount := r.unresolvedAmount + r.outstanding, outstanding := 0, state := .unresolved, finalStamp := stamp } :
      SettleRec).balanced := by
  obtain ⟨h1, -, -, h4, h5⟩ := h
  have live := h4.1 hs
  have nh : r.state ≠ .held := by intro e; rw [e] at live; rcases live with l | l | l <;> cases l
  have m := h1 nh
  unfold SettleRec.money at m
  refine ⟨⟨fun _ => ?_, fun e => (by cases e), fun e => (by cases e),
      ⟨fun e => absurd e (Nat.lt_irrefl 0), fun e => (by rcases e with l | l | l <;> cases l)⟩, ?_⟩,
    ⟨fun _ => ?_, fun e => (by cases e), fun e => (by cases e),
      ⟨fun e => absurd e (Nat.lt_irrefl 0), fun e => (by rcases e with l | l | l <;> cases l)⟩, ?_⟩,
    ⟨fun _ => ?_, fun e => (by cases e), fun e => (by cases e),
      ⟨fun e => absurd e (Nat.lt_irrefl 0), fun e => (by rcases e with l | l | l <;> cases l)⟩, ?_⟩⟩
  all_goals simp only [SettleRec.money]; omega

/-- A record that waits, is claimed or is dispensed keeps its balance through a change to another of these states. -/
theorem balanced_moved {r : SettleRec} (h : r.balanced) (hs : 0 < r.outstanding) (state : RecordState)
    (live : state.tag = .awaiting ∨ state.tag = .claimed ∨ state.tag = .dispensing) : ({ r with state := state } : SettleRec).balanced := by
  obtain ⟨h1, -, -, h4, h5⟩ := h
  have was := h4.1 hs
  have nh : r.state ≠ .held := by intro e; rw [e] at was; rcases was with l | l | l <;> cases l
  exact ⟨fun _ => h1 nh, fun e => (by rw [show state = .held from e] at live; rcases live with l | l | l <;> cases l),
    fun e => (by rw [show state = .void from e] at live; rcases live with l | l | l <;> cases l), ⟨fun _ => live, fun _ => hs⟩, h5⟩

/-! ## Every command answers a next state -/

theorem exec_answers (c : Instr) (s : State) : ∃ t, exec c s = .next t := by
  cases c <;> dsimp only [exec] <;>
    first
    | exact event_answers _ _
    | exact request_answers _ _ _ _
    | exact ⟨_, rfl⟩
    | (unfold execBeamLineChange; split <;> first | exact ⟨_, rfl⟩ | exact event_answers _ _)
    | (unfold execTakeoffLineChange; split <;> first | exact ⟨_, rfl⟩ | exact event_answers _ _)
    | (unfold execRejectLineChange; split <;> first | exact ⟨_, rfl⟩ | exact event_answers _ _)

/-! ## A request with a malformed body -/

/-- It leaves the buffer and is answered RANGE with the counts of its kind; nothing else changes (R176). -/
theorem takeMalformed_eq (f : Frame) (rest : List Frame) (s : State) :
    takeMalformed f rest s = { s with host := { s.host with
      reqBuf := rest, reply := some ⟨f.kind, f.tag, .range, s.refusalResult f.kind⟩ } } := rfl

end Sys2Proof.Machine
end

