-- ==== Sys2Proof/Laws/Acts.lean ====
section
/-! SUPPORT. What every shared operation of the blocks can do to the rest of the part: `Acts s t` says that `t` keeps what no block's
operation touches, and keeps the laws of the part. One lemma for each operation. -/

namespace Sys2Proof.Machine

/-- The law of one lane (R54, R165). -/
def Lane.law (l : Lane) : Prop := l.journal.entries.length ≤ 256 ∧ l.rejects.length ≤ 16

/-- The law of one record (R126). -/
def SettleRec.law (r : SettleRec) : Prop := r.money ≤ r.amount ∧ (r.state = .held → r.money = 0)

/-- A block has acted: the reset line, the time, the queue of commands, the receiver, the request buffer, the reply, the transmitter, the
filter, the yard clock and the number generators are as before, and the laws still hold. -/
structure Acts (s t : State) : Prop where
  rstHeld : t.rstHeld = s.rstHeld
  now : t.now = s.now
  holdPeriod : t.holdPeriod = s.holdPeriod
  lastDrop : t.lastDrop = s.lastDrop
  checkPos : t.checkPos = s.checkPos
  choices : t.choices = s.choices
  pending : t.pending = s.pending
  rx : t.host.rx = s.host.rx
  reqBuf : t.host.reqBuf = s.host.reqBuf
  reply : t.host.reply = s.host.reply
  tx : t.host.tx = s.host.tx
  filter : t.host.filter = s.host.filter
  clock : t.host.clock = s.host.clock
  clockBase : t.host.clockBase = s.host.clockBase
  notices : s.host.noticeLaw → t.host.noticeLaw
  money : s.moneyLaw → t.moneyLaw
  lanes : s.laneLaw → t.laneLaw
  sightings : s.sightingLaw → t.sightingLaw
  stations : s.stationLaw → t.stationLaw

theorem Acts.refl (s : State) : Acts s s :=
  ⟨rfl, rfl, rfl, rfl, rfl, rfl, rfl, rfl, rfl, rfl, rfl, rfl, rfl, rfl, id, id, id, id, id⟩

theorem Acts.trans {s t u : State} (h : Acts s t) (k : Acts t u) : Acts s u :=
  ⟨k.rstHeld.trans h.rstHeld, k.now.trans h.now, k.holdPeriod.trans h.holdPeriod, k.lastDrop.trans h.lastDrop,
    k.checkPos.trans h.checkPos, k.choices.trans h.choices, k.pending.trans h.pending, k.rx.trans h.rx, k.reqBuf.trans h.reqBuf,
    k.reply.trans h.reply, k.tx.trans h.tx, k.filter.trans h.filter, k.clock.trans h.clock, k.clockBase.trans h.clockBase,
    fun x => k.notices (h.notices x), fun x => k.money (h.money x), fun x => k.lanes (h.lanes x), fun x => k.sightings (h.sightings x),
    fun x => k.stations (h.stations x)⟩

theorem acts_stamp {s t : State} (h : Acts s t) : t.stamp = s.stamp := by
  simp [State.stamp, h.clock, h.now, h.clockBase]

/-! ## Stores of one thing -/

/-- A change of one lane that keeps its law. -/
theorem acts_setLane {s : State} (i : LaneIdx) (l : Lane) (h : s.laneLaw → l.law) : Acts s (s.setLane i l) :=
  ⟨rfl, rfl, rfl, rfl, rfl, rfl, rfl, rfl, rfl, rfl, rfl, rfl, rfl, rfl, id, id,
    fun x j => by
      by_cases e : i = j
      · subst e; rw [lane_setLane_same]; exact h x
      · rw [lane_setLane_ne _ _ e]; exact x j,
    id, id⟩

theorem acts_modLane {s : State} (i : LaneIdx) (f : Lane → Lane) (h : (s.lane i).law → (f (s.lane i)).law) : Acts s (s.modLane i f) :=
  acts_setLane i _ (fun x => h (x i))

/-- A change of one station that keeps its claim queue to its 4 places. -/
theorem acts_setStation {s : State} (x : StationId) (t : Station) (h : (s.station x).queue.length ≤ 4 → t.queue.length ≤ 4) :
    Acts s (s.setStation x t) := by
  cases x
  · exact ⟨rfl, rfl, rfl, rfl, rfl, rfl, rfl, rfl, rfl, rfl, rfl, rfl, rfl, rfl, id, id, id, id,
      fun k y => match y with | .a => h (k .a) | .b => k .b⟩
  · exact ⟨rfl, rfl, rfl, rfl, rfl, rfl, rfl, rfl, rfl, rfl, rfl, rfl, rfl, rfl, id, id, id, id,
      fun k y => match y with | .a => k .a | .b => h (k .b)⟩

theorem acts_modStation {s : State} (x : StationId) (f : Station → Station)
    (h : (s.station x).queue.length ≤ 4 → (f (s.station x)).queue.length ≤ 4) : Acts s (s.modStation x f) := acts_setStation x _ h

theorem acts_countYard (s : State) (c : YardCtr) : Acts s (s.countYard c) :=
  ⟨rfl, rfl, rfl, rfl, rfl, rfl, rfl, rfl, rfl, rfl, rfl, rfl, rfl, rfl, id, id, id, id, id⟩

theorem acts_tables (s : State) (t : Tables) : Acts s { s with tables := t } :=
  ⟨rfl, rfl, rfl, rfl, rfl, rfl, rfl, rfl, rfl, rfl, rfl, rfl, rfl, rfl, id, id, id, id, id⟩

theorem acts_sightings {s : State} (l : List Sighting) (h : s.sightingLaw → l.length ≤ 2048) : Acts s { s with sightings := l } :=
  ⟨rfl, rfl, rfl, rfl, rfl, rfl, rfl, rfl, rfl, rfl, rfl, rfl, rfl, rfl, id, id, id, h, id⟩

theorem acts_parkOrder (s : State) (l : List LaneIdx) : Acts s { s with parkOrder := l } :=
  ⟨rfl, rfl, rfl, rfl, rfl, rfl, rfl, rfl, rfl, rfl, rfl, rfl, rfl, rfl, id, id, id, id, id⟩

theorem acts_finalOrder (s : State) (l : List SlotIdx) : Acts s { s with finalOrder := l } :=
  ⟨rfl, rfl, rfl, rfl, rfl, rfl, rfl, rfl, rfl, rfl, rfl, rfl, rfl, rfl, id, id, id, id, id⟩

theorem acts_store {s : State} (t : List (SlotIdx × SettleRec)) (h : s.moneyLaw → ∀ p ∈ t, p.2.law) : Acts s { s with store := t } :=
  ⟨rfl, rfl, rfl, rfl, rfl, rfl, rfl, rfl, rfl, rfl, rfl, rfl, rfl, rfl, id, h, id, id, id⟩

theorem mem_assocSet {α : Type} {t : List (Nat × α)} {k : Nat} {v : α} {p : Nat × α} (h : p ∈ assocSet t k v) : p = (k, v) ∨ p ∈ t := by
  induction t with
  | nil => simp [assocSet] at h; exact .inl h
  | cons q t ih =>
    obtain ⟨k', v'⟩ := q
    unfold assocSet at h
    split at h
    · rcases List.mem_cons.1 h with h | h
      · exact .inl h
      · exact .inr h
    · split at h
      · rcases List.mem_cons.1 h with h | h
        · exact .inl h
        · exact .inr (List.mem_cons_of_mem _ h)
      · rcases List.mem_cons.1 h with h | h
        · exact .inr (h ▸ List.mem_cons_self)
        · rcases ih h with h | h
          · exact .inl h
          · exact .inr (List.mem_cons_of_mem _ h)

theorem mem_assocErase {α : Type} {t : List (Nat × α)} {k : Nat} {p : Nat × α} (h : p ∈ assocErase t k) : p ∈ t := by
  induction t with
  | nil => simp [assocErase] at h
  | cons q t ih =>
    obtain ⟨k', v'⟩ := q
    unfold assocErase at h
    split at h
    · exact List.mem_cons_of_mem _ h
    · rcases List.mem_cons.1 h with h | h
      · exact h ▸ List.mem_cons_self
      · exact List.mem_cons_of_mem _ (ih h)

theorem mem_of_assocGet {α : Type} {t : List (Nat × α)} {k : Nat} {v : α} (h : assocGet t k = some v) : (k, v) ∈ t := by
  induction t with
  | nil => simp [assocGet] at h
  | cons q t ih =>
    obtain ⟨k', v'⟩ := q
    unfold assocGet at h
    split at h
    · next e => cases h; subst e; exact List.mem_cons_self
    · exact List.mem_cons_of_mem _ (ih h)

/-- What is written at an index is read there, whatever the list. -/
theorem assocGet_assocSet_same {α : Type} (t : List (Nat × α)) (k : Nat) (v : α) : assocGet (assocSet t k v) k = some v := by
  induction t with
  | nil => simp [assocSet, assocGet]
  | cons q t ih =>
    obtain ⟨k', v'⟩ := q
    unfold assocSet
    split
    · simp [assocGet]
    · split
      · simp [assocGet]
      · next h => simp [assocGet, h, ih]

theorem assocGet_assocSet_ne {α : Type} (t : List (Nat × α)) {k k' : Nat} (v : α) (h : k' ≠ k) :
    assocGet (assocSet t k v) k' = assocGet t k' := by
  induction t with
  | nil => simp [assocSet, assocGet, h]
  | cons q t ih =>
    obtain ⟨k2, v2⟩ := q
    unfold assocSet
    split
    · simp [assocGet, h]
    · split
      · next e => subst e; simp [assocGet, h]
      · simp only [assocGet, ih]

@[simp] theorem recordAt_setRecord_same (s : State) (k : SlotIdx) (r : SettleRec) : (s.setRecord k r).recordAt k = some r :=
  assocGet_assocSet_same _ _ _

theorem recordAt_setRecord_ne (s : State) {k k' : SlotIdx} (r : SettleRec) (h : k' ≠ k) : (s.setRecord k r).recordAt k' = s.recordAt k' :=
  assocGet_assocSet_ne _ _ h

/-- A record of a lawful store is lawful. -/
theorem law_of_recordAt {s : State} {k : SlotIdx} {r : SettleRec} (h : s.recordAt k = some r) (m : s.moneyLaw) : r.law :=
  m _ (mem_of_assocGet h)

theorem acts_setRecord {s : State} (k : SlotIdx) (r : SettleRec) (h : s.moneyLaw → r.law) : Acts s (s.setRecord k r) :=
  acts_store _ (fun m p hp => by
    rcases mem_assocSet hp with e | e
    · subst e; exact h m
    · exact m p e)

/-! ## Notices and journals -/

theorem acts_enqueue (s : State) (b : NoticeBody) : Acts s (s.enqueue b) := by
  obtain ⟨host, yard, e, h1, h2, h3, h4, h5, h6, h7⟩ := enqueue_cases s b
  have law : s.host.noticeLaw → (s.enqueue b).host.noticeLaw := by
    intro h
    unfold HostLink.noticeLaw at h
    unfold State.enqueue
    dsimp only
    split
    · next hl => simpa [HostLink.noticeLaw, State.countYard, hl] using h
    · next hl =>
      simp only [hl, Bool.false_eq_true, if_false] at h
      split
      · next hn =>
        simp only [Config.noticeQueue] at hn
        simp only [HostLink.noticeLaw, hl, Bool.false_eq_true, if_false, List.length_append, List.length_cons, List.length_nil]
        omega
      · next hn =>
        simp only [Config.noticeQueue] at hn
        simp only [HostLink.noticeLaw, State.countYard, if_true, List.length_append, List.length_cons, List.length_nil]
        omega
  rw [e] at law ⊢
  exact ⟨rfl, rfl, rfl, rfl, rfl, rfl, rfl, h1, h2, h3, h4, h5, h6, h7, law, id, id, id, id⟩

theorem acts_post (s : State) (b : NoticeBody) : Acts s (s.post b) := by
  unfold State.post
  split
  · exact acts_enqueue s b
  · exact .refl s

theorem acts_postAll (s : State) (bs : List NoticeBody) : Acts s (s.postAll bs) := by
  induction bs generalizing s with
  | nil => exact .refl s
  | cons b bs ih => exact (acts_post s b).trans (ih _)

theorem acts_journalWrite (s : State) (i : LaneIdx) (b : JournalBody) : Acts s (s.journalWrite i b) := by
  unfold State.journalWrite
  refine (acts_modLane i _ ?_).trans (acts_postAll _ _)
  intro h
  exact ⟨append_length_le _ _ _, h.2⟩

/-! ## Lane Control -/

theorem acts_count (s : State) (i : LaneIdx) (c : LaneCtr) : Acts s (s.count i c) := acts_modLane i _ id

theorem acts_modCounting (s : State) (i : LaneIdx) (f : DropRec → DropRec) : Acts s (s.modCounting i f) :=
  acts_modLane i _ (fun h => by by_cases c : (s.lane i).counting <;> simpa [c, Lane.modDrop, Lane.law] using h)

theorem acts_accumulate (s : State) (i : LaneIdx) : Acts s (s.accumulate i) := by
  unfold State.accumulate
  dsimp only
  split
  · exact acts_modLane i _ id
  · split
    · exact (acts_count s i _).trans (acts_modLane i _ id)
    · exact ((acts_count s i _).trans (acts_modLane i _ id)).trans (acts_post _ _)

theorem acts_leaveAccumulation (s : State) (i : LaneIdx) : Acts s (s.leaveAccumulation i) := acts_modLane i _ id

theorem acts_takeOff (s : State) (i : LaneIdx) : Acts s (s.takeOff i) := by
  unfold State.takeOff
  split
  · exact (acts_count s i _).trans (acts_leaveAccumulation _ i)
  · exact acts_leaveAccumulation s i

theorem acts_joinWindow (s : State) (i : LaneIdx) (bad : Bool) : Acts s (s.joinWindow i bad) := by
  unfold State.joinWindow
  dsimp only
  split
  · exact (((acts_modLane i _ id).trans (acts_modLane i _ id)).trans (acts_journalWrite _ i _)).trans (acts_post _ _)
  · split
    · exact (((acts_modLane i _ id).trans (acts_modLane i _ id)).trans (acts_journalWrite _ i _)).trans (acts_post _ _)
    · exact acts_modLane i _ id

theorem acts_joinRejects (s : State) (i : LaneIdx) (e : RejectEntry) : Acts s (s.joinRejects i e) :=
  acts_modLane i _ (fun h => ⟨h.1, List.length_take_le _ _⟩)

theorem acts_press (s : State) (i : LaneIdx) : Acts s (s.press i) := by
  unfold State.press
  split
  · refine ((acts_modLane i _ ?_).trans (acts_count _ i _)).trans (acts_journalWrite _ i _)
    intro h
    exact ⟨h.1, by have := h.2; simp; omega⟩
  · exact acts_count s i _

/-! ## The Table Unit -/

theorem acts_tableFaults (s : State) (t : TableName) (ks : List Nat) : Acts s (s.tableFaults t ks) := by
  unfold State.tableFaults
  induction ks generalizing s with
  | nil => exact .refl s
  | cons k ks ih => exact ((acts_post s _).trans (acts_countYard _ _)).trans (ih _)

theorem acts_examineClasses (s : State) : Acts s s.examineClasses := (acts_tables s _).trans (acts_tableFaults _ _ _)
theorem acts_examineMarks (s : State) : Acts s s.examineMarks := (acts_tables s _).trans (acts_tableFaults _ _ _)
theorem acts_examineAccounts (s : State) : Acts s s.examineAccounts := (acts_tables s _).trans (acts_tableFaults _ _ _)
theorem acts_examineClassAt (s : State) (k : Nat) : Acts s (s.examineClassAt k) := (acts_tables s _).trans (acts_tableFaults _ _ _)
theorem acts_examineMarkAt (s : State) (k : Nat) : Acts s (s.examineMarkAt k) := (acts_tables s _).trans (acts_tableFaults _ _ _)
theorem acts_examinePoolAt (s : State) (k : Nat) : Acts s (s.examinePoolAt k) := (acts_tables s _).trans (acts_tableFaults _ _ _)
theorem acts_examineAccountAt (s : State) (k : Nat) : Acts s (s.examineAccountAt k) := (acts_tables s _).trans (acts_tableFaults _ _ _)

/-! ## The Classifier -/

theorem acts_learn (s : State) (owner serial : Nat) (lane : LaneIdx) (drop : Nat) : Acts s (s.learn owner serial lane drop) := by
  unfold State.learn
  dsimp only
  split
  · next h =>
    simp only [Config.sightingCount] at h
    exact acts_sightings _ (fun _ => by simp; omega)
  · exact (acts_countYard s .evicted).trans (acts_sightings _ (fun h => by
      have h' : s.sightings.length ≤ 2048 := h
      simp only [List.length_append, List.length_drop, List.length_cons, List.length_nil]; omega))

theorem acts_refresh {s : State} {owner serial : Nat} {e : Sighting} (h : sightingOf s.sightings owner serial = some e) :
    Acts s (s.refresh e) := by
  refine acts_sightings _ (fun hl => ?_)
  have hl' : s.sightings.length ≤ 2048 := hl
  have hm : e ∈ s.sightings := List.mem_of_find?_eq_some h
  have : (forget s.sightings e.owner e.serial).length < s.sightings.length := by
    unfold forget
    apply List.length_filter_lt_length_iff_exists.2
    exact ⟨e, hm, by simp⟩
  simp only [List.length_append, List.length_cons, List.length_nil]
  omega

theorem acts_judgeKeg (s : State) (i : LaneIdx) (drop : Nat) (code : Code) (weight cls tare ullage full charge base : Nat)
    (alerts : List AlertReason) : Acts s (s.judgeKeg i drop code weight cls tare ullage full charge base alerts).1 := by
  unfold State.judgeKeg
  split
  · next h => exact acts_refresh h
  · exact acts_learn _ _ _ _ _

theorem acts_ladderKeg (s : State) (i : LaneIdx) (drop : Nat) (code : Code) (weight units cls tare ullage full charge base : Nat) :
    Acts s (s.ladderKeg i drop code weight units cls tare ullage full charge base).1 := by
  unfold State.ladderKeg
  dsimp only
  split
  · exact .refl s
  · split
    · exact acts_examineMarks s
    · exact (acts_examineMarks s).trans (acts_judgeKeg _ _ _ _ _ _ _ _ _ _ _ _)

theorem acts_dropPool (s : State) (account : Nat) : Acts s (s.dropPool account).1 := by
  unfold State.dropPool
  dsimp only
  split
  · exact acts_examineAccounts s
  · exact (acts_examineAccounts s).trans (acts_examinePoolAt _ _)

theorem acts_ladderPool (s : State) (i : LaneIdx) (d : DropRec) (code : Code) (m : Measurement) (units cls : Nat) (e : ClassEntry) :
    Acts s (s.ladderPool i d code m units cls e).1 := by
  unfold State.ladderPool
  have hp := acts_dropPool s d.account
  split
  · next h => rw [h] at hp; exact hp
  · next h =>
    rw [h] at hp
    split
    · dsimp only
      split
      · split <;> exact hp
      · exact hp.trans (acts_ladderKeg _ _ _ _ _ _ _ _ _ _ _ _)
    · exact hp

/-- The ladder decides an item: it examines tables and keeps the Sighting List. -/
theorem acts_ladder (s : State) (i : LaneIdx) (d : DropRec) (c : Capture) : Acts s (s.ladder i d c).1 := by
  unfold State.ladder
  dsimp only
  split
  · exact .refl s
  · exact .refl s
  · exact .refl s
  · split
    · exact acts_examineClasses s
    · split
      · exact (acts_examineClasses s).trans (acts_ladderPool _ _ _ _ _ _ _ _)
      · exact acts_examineClasses s

theorem acts_listAndAlert (s : State) (i : LaneIdx) (drop seq : Nat) (it : Item) (v : Verdict) (o : ItemOutcome) :
    Acts s (s.listAndAlert i drop seq it v o) := by
  unfold State.listAndAlert
  dsimp only
  have h1 : Acts s (match o.paying with
    | some d => s.joinRejects i ⟨seq, it.completed, v.cls.getD 0, d, v.value.getD 0, v.units⟩
    | none => s) := by
    split
    · exact acts_joinRejects _ _ _
    · exact .refl s
  split
  · exact h1
  · exact h1.trans (acts_post _ _)
  · exact h1

theorem acts_applyVerdict (s : State) (i : LaneIdx) (d : DropRec) (it : Item) (v : Verdict) : Acts s (s.applyVerdict i d it v) :=
  (((acts_modLane i _ id).trans (acts_journalWrite _ i _)).trans (acts_joinWindow _ i _)).trans (acts_listAndAlert _ _ _ _ _ _ _)

theorem acts_classify (s : State) (i : LaneIdx) (d : DropRec) (it : Item) : Acts s (s.classify i d it) :=
  (acts_ladder s i d it.capture).trans (acts_applyVerdict _ _ _ _ _)

theorem acts_stray (s : State) (i : LaneIdx) (it : Item) : Acts s (s.stray i it) :=
  ((acts_journalWrite s i _).trans (acts_count _ i _)).trans (acts_post _ _)

theorem acts_handOver (s : State) (i : LaneIdx) (it : FwdItem) (completed : Nat) : Acts s (s.handOver i it completed) := by
  unfold State.handOver
  dsimp only
  split
  · exact ((acts_count s i _).trans (acts_accumulate _ i)).trans (acts_classify _ _ _ _)
  · exact ((acts_count s i _).trans (acts_accumulate _ i)).trans (acts_stray _ _ _)

theorem acts_endGrace (s : State) (i : LaneIdx) : Acts s (s.endGrace i) := by
  unfold State.endGrace
  split
  · exact (acts_modLane i _ id).trans (acts_handOver _ _ _ _)
  · exact acts_modLane i _ id

theorem acts_handOverWaiting (s : State) (i : LaneIdx) : Acts s (s.handOverWaiting i) := by
  unfold State.handOverWaiting
  split
  · exact acts_endGrace s i
  · exact .refl s

/-! ## Identity Capture -/

theorem acts_toEarlyHold (s : State) (i : LaneIdx) (c : Code) : Acts s (s.toEarlyHold i c) := by
  unfold State.toEarlyHold
  dsimp only
  split
  · exact acts_count s i _
  · split
    · split
      · exact acts_modLane i _ id
      · exact (acts_modLane i _ id).trans (acts_count _ i _)
    · exact acts_modLane i _ id

theorem acts_dropEarly (s : State) (i : LaneIdx) : Acts s (s.dropEarly i) := by
  unfold State.dropEarly
  split
  · exact (acts_modLane i _ id).trans (acts_count _ i _)
  · exact .refl s

theorem offerInGrace_law (l : Lane) (c : Code) (h : l.law) : (l.offerInGrace c).law := by
  unfold Lane.offerInGrace
  split <;> exact h

theorem acts_routeCode (s : State) (i : LaneIdx) (c : Code) : Acts s (s.routeCode i c) := by
  have early : Acts s (if (s.lane i).grace.isSome then s.modLane i (fun l => l.offerInGrace c) else s.toEarlyHold i c) := by
    split
    · exact acts_modLane i _ (offerInGrace_law _ c)
    · exact acts_toEarlyHold s i c
  unfold State.routeCode
  dsimp only
  split
  · exact acts_modLane i _ id
  · exact acts_modLane i _ id
  · exact acts_modLane i _ id
  · exact early
  · exact early
  · exact early
  · exact acts_count s i _
  · exact acts_count s i _
  · exact acts_count s i _
  · exact .refl s

theorem acts_returnCode (s : State) (i : LaneIdx) (it : FwdItem) : Acts s (s.returnCode i it) := by
  unfold State.returnCode
  split
  · split
    · exact .refl s
    · exact acts_toEarlyHold s i _
  · exact .refl s

theorem acts_declareLost (s : State) (i : LaneIdx) (cause : HeadCause) : Acts s (s.declareLost i cause) :=
  ((((acts_modLane i _ id).trans (acts_dropEarly _ i)).trans (acts_modLane i _ id)).trans (acts_journalWrite _ i _)).trans (acts_post _ _)

theorem acts_headReturns (s : State) (i : LaneIdx) : Acts s (s.headReturns i) :=
  ((acts_modLane i _ id).trans (acts_journalWrite _ i _)).trans (acts_post _ _)

theorem acts_headHunts (s : State) (i : LaneIdx) : Acts s (s.headHunts i) := acts_modLane i _ id

theorem restartSilence_law (l : Lane) (now : Nat) (h : l.law) : (l.restartSilence now).law := by
  unfold Lane.restartSilence
  split <;> exact h

theorem acts_headFrame (s : State) (i : LaneIdx) (f : Option HeadFrame) : Acts s (s.headFrame i f) := by
  unfold State.headFrame
  dsimp only
  refine (acts_headHunts s i).trans ?_
  split
  · unfold State.codeArrives
    split
    · exact .refl _
    · exact (acts_modLane i _ (restartSilence_law _ _)).trans (acts_routeCode _ i _)
    · exact (acts_headReturns _ i).trans (acts_routeCode _ i _)
  · unfold State.measureArrives
    split
    · exact .refl _
    · exact acts_modLane i _ (fun h => restartSilence_law _ _ h)
  · unfold State.statusArrives
    split
    · exact .refl _
    · split
      · exact acts_modLane i _ (restartSilence_law _ _)
      · exact acts_declareLost _ i _
    · split
      · exact acts_headReturns _ i
      · exact acts_modLane i _ id
  · exact .refl _

/-! ## The Gate Sequencer -/

theorem acts_setGate (s : State) (i : LaneIdx) (g : Gate) : Acts s (s.setGate i g) := acts_modLane i _ id

theorem acts_bounceForward (s : State) (i : LaneIdx) (it : FwdItem) (g : Gate) : Acts s (s.bounceForward i it g) :=
  ((acts_setGate s i g).trans (acts_count _ i _)).trans (acts_returnCode _ i it)

theorem acts_complete (s : State) (i : LaneIdx) (it : FwdItem) (g : Gate) : Acts s (s.complete i it g) := by
  have h1 : Acts s ((s.setGate i g).count i .forward) := (acts_setGate s i g).trans (acts_count _ i _)
  have h2 : Acts s (if it.long then ((s.setGate i g).count i .forward).count i .longItems else (s.setGate i g).count i .forward) := by
    split
    · exact h1.trans (acts_count _ i _)
    · exact h1
  unfold State.complete
  dsimp only
  split
  · exact h2.trans (acts_modLane i _ id)
  · exact h2.trans (acts_handOver _ _ _ _)

theorem acts_reverseCompletes (s : State) (i : LaneIdx) (seenB : Nat) : Acts s (s.reverseCompletes i seenB) :=
  ((((acts_setGate s i _).trans (acts_count _ i _)).trans (acts_journalWrite _ i _)).trans (acts_modCounting _ i _)).trans
    (acts_leaveAccumulation _ i)

theorem acts_openWindow (s : State) (i : LaneIdx) (g : FwdItem → Gate) : Acts s (s.openWindow i g) := by
  unfold State.openWindow
  exact acts_modLane i (fun l => { l with gate := g (l.openItem s.now), early := none }) id

theorem acts_aBlocks (s : State) (i : LaneIdx) : Acts s (s.aBlocks i) := by
  unfold State.aBlocks
  dsimp only
  refine ((acts_modLane i (fun l => { l with lastABlock := some s.now }) id).trans (acts_endGrace _ i)).trans ?_
  split
  · exact acts_openWindow _ i _
  · exact acts_openWindow _ i _
  · exact acts_setGate _ i _
  · exact acts_count _ i _

theorem acts_aClears (s : State) (i : LaneIdx) : Acts s (s.aClears i) := by
  unfold State.aClears
  split
  · exact acts_bounceForward s i _ _
  · exact acts_modLane i _ id
  · exact acts_bounceForward s i _ _
  · exact acts_setGate s i _
  · exact acts_reverseCompletes s i _
  · exact acts_count s i _

theorem acts_bBlocks (s : State) (i : LaneIdx) : Acts s (s.bBlocks i) := by
  unfold State.bBlocks
  split
  · exact acts_setGate s i _
  · exact acts_setGate s i _
  · exact acts_setGate s i _
  · exact acts_count s i _

theorem acts_bClears (s : State) (i : LaneIdx) : Acts s (s.bClears i) := by
  unfold State.bClears
  split
  · exact acts_setGate s i _
  · exact acts_complete s i _ _
  · exact acts_complete s i _ _
  · exact (acts_setGate s i _).trans (acts_count _ i _)
  · exact acts_setGate s i _
  · exact acts_count s i _

theorem setStuck_law (l : Lane) (x : Beam) (t : Option Nat) (h : l.law) : (l.setStuck x t).law := by cases x <;> exact h

theorem setBeam_law (l : Lane) (x : Beam) (d : Debouncer) (h : l.law) : (l.setBeam x d).law := by cases x <;> exact h

theorem acts_countingEdge (s : State) (i : LaneIdx) (x : Beam) (blocks : Bool) : Acts s (s.countingEdge i x blocks) := by
  unfold State.countingEdge
  split
  · exact acts_aBlocks s i
  · exact acts_aClears s i
  · exact acts_bBlocks s i
  · exact acts_bClears s i

theorem acts_deliverEdge (s : State) (i : LaneIdx) (x : Beam) (blocks : Bool) : Acts s (s.deliverEdge i x blocks) := by
  unfold State.deliverEdge
  split
  · exact .refl s
  · exact acts_modLane i _ id
  · exact (acts_modLane i _ (setStuck_law _ _ _)).trans (acts_countingEdge _ i x blocks)

theorem acts_abandonItems (s : State) (i : LaneIdx) (g : Gate) : Acts s (s.abandonItems i g) := by
  unfold State.abandonItems
  dsimp only
  refine Acts.trans ?_ (acts_modLane i _ id)
  generalize (s.lane i).gate.abandoned s.now = held
  induction held generalizing s with
  | nil => exact .refl s
  | cons e held ih => exact ((acts_journalWrite s i e).trans (acts_count _ i _)).trans (ih _)

theorem acts_declareFault (s : State) (i : LaneIdx) (beams : FaultBeams) : Acts s (s.declareFault i beams) :=
  (((acts_abandonItems s i _).trans (acts_modCounting _ i _)).trans (acts_journalWrite _ i _)).trans (acts_post _ _)

theorem acts_clearFault (s : State) (i : LaneIdx) : Acts s (s.clearFault i) :=
  ((acts_modLane i _ id).trans (acts_journalWrite _ i _)).trans (acts_post _ _)

/-! ## The Settlement Store -/

theorem acts_becomeFinal {s : State} (k : SlotIdx) (r : SettleRec) (state : RecordState) (hs : state ≠ .held)
    (h : s.moneyLaw → r.money ≤ r.amount) : Acts s (s.becomeFinal k r state) :=
  (acts_setRecord k { r with state := state, finalStamp := some s.host.clock } (fun m => ⟨h m, fun e => absurd e hs⟩)).trans
    (acts_finalOrder _ _)

theorem acts_leaveQueues (s : State) (k : SlotIdx) : Acts s (s.leaveQueues k) :=
  ⟨rfl, rfl, rfl, rfl, rfl, rfl, rfl, rfl, rfl, rfl, rfl, rfl, rfl, rfl, id, id, id, id,
    fun h x => match x with
      | .a => Nat.le_trans (List.length_filter_le _ _) (h .a)
      | .b => Nat.le_trans (List.length_filter_le _ _) (h .b)⟩

/-- A credit move of at most the outstanding cash (R127). -/
theorem acts_creditMove {s : State} (k : SlotIdx) (r : SettleRec) (sum : Nat) (reason : CreditReason) (hs : sum ≤ r.outstanding)
    (h : s.moneyLaw → r.law) : Acts s (s.creditMove k r sum reason) := by
  have e : (r.cashPaid + (r.creditIssued + sum) + (r.outstanding - sum) + r.unresolvedAmount) = r.money := by
    unfold SettleRec.money; omega
  unfold State.creditMove
  dsimp only
  split
  · refine ((acts_leaveQueues s k).trans (acts_becomeFinal k _ _ (by intro h; cases h) ?_)).trans (acts_post _ _)
    intro m
    have := (h m).1
    show r.cashPaid + (r.creditIssued + sum) + (r.outstanding - sum) + r.unresolvedAmount ≤ r.amount
    omega
  · refine (acts_setRecord k _ ?_).trans (acts_post _ _)
    intro m
    refine ⟨?_, ?_⟩
    · show r.cashPaid + (r.creditIssued + sum) + (r.outstanding - sum) + r.unresolvedAmount ≤ r.amount
      have := (h m).1
      omega
    · intro hh
      show r.cashPaid + (r.creditIssued + sum) + (r.outstanding - sum) + r.unresolvedAmount = 0
      rw [e]
      exact (h m).2 hh

theorem acts_awaitClaim {s : State} (k : SlotIdx) (r : SettleRec) (h : s.moneyLaw → r.money ≤ r.amount) : Acts s (s.awaitClaim k r) :=
  acts_setRecord k _ (fun m => ⟨h m, fun e => by cases e⟩)

theorem cashPartOf_le (station : Option StationId) (a : AccountEntry) (amount : Nat) : cashPartOf station a amount ≤ amount := by
  unfold cashPartOf
  split
  · exact Nat.zero_le _
  · split
    · exact Nat.le_refl _
    · exact Nat.zero_le _
    · exact Nat.min_le_left _ _

/-- Settling a record that has given out nothing yet (R128, R129). -/
theorem acts_settle {s : State} (k : SlotIdx) (r : SettleRec) (h : s.moneyLaw → r.money = 0) : Acts s (s.settle k r) := by
  unfold State.settle
  dsimp only
  generalize hc : cashPartOf r.station (s.examineAccounts.accountOrStandIn r.drop.account) r.amount = cash
  have hle : cash ≤ r.amount := hc ▸ cashPartOf_le _ _ _
  have a2 := (acts_examineAccounts s).trans (acts_post s.examineAccounts
    (.settled r.drop.number r.drop.lane r.drop.account r.drop.station r.amount cash (r.amount - cash) r.drop.checkCode))
  have a3 : ∀ tag, Acts s (if 0 < r.amount - cash then
      (s.examineAccounts.post (.settled r.drop.number r.drop.lane r.drop.account r.drop.station r.amount cash (r.amount - cash)
        r.drop.checkCode)).post (.credit r.drop.number r.drop.account r.drop.station (r.amount - cash) .settle (r.amount - cash) tag)
      else s.examineAccounts.post (.settled r.drop.number r.drop.lane r.drop.account r.drop.station r.amount cash (r.amount - cash)
        r.drop.checkCode)) := by
    intro tag
    split
    · exact a2.trans (acts_post _ _)
    · exact a2
  have hm : r.money = 0 → r.cashPaid + (r.amount - cash) + cash + r.unresolvedAmount ≤ r.amount := by
    unfold SettleRec.money; intro h; omega
  -- the record written depends on the money law of the state before, which the notices keep
  by_cases hl : s.moneyLaw
  · split
    · exact (a3 _).trans (acts_becomeFinal k _ _ (by intro h; cases h) (fun _ => hm (h hl)))
    · exact (a3 _).trans (acts_awaitClaim k _ (fun _ => hm (h hl)))
  · have drop : ∀ t, Acts s t → ∀ st, Acts s (t.setRecord k st) := by
      intro t ht st
      exact ⟨ht.rstHeld, ht.now, ht.holdPeriod, ht.lastDrop, ht.checkPos, ht.choices, ht.pending, ht.rx, ht.reqBuf, ht.reply, ht.tx,
        ht.filter, ht.clock, ht.clockBase, ht.notices, fun m => absurd m hl, ht.lanes, ht.sightings, ht.stations⟩
    split
    · exact (drop _ (a3 _) _).trans (acts_finalOrder _ _)
    · exact drop _ (a3 _) _

theorem acts_evaluate (s : State) (k : SlotIdx) (d : DropRec) : Acts s (s.evaluate k d) := by
  unfold State.evaluate
  dsimp only
  generalize holdReasons d (s.examineAccounts.accountOrStandIn d.account) = reasons
  have a : ∀ b, Acts s ((s.examineAccounts.setRecord k (SettleRec.atEntry d reasons)).post b) := fun b =>
    ((acts_examineAccounts s).trans (acts_setRecord k _ (fun _ => ⟨Nat.zero_le _, fun _ => rfl⟩))).trans (acts_post _ b)
  split
  · exact (a _).trans (acts_settle k _ (fun _ => rfl))
  · exact a _

theorem acts_removeRecord (s : State) (k : SlotIdx) : Acts s (s.removeRecord k) :=
  (acts_store _ (fun m p hp => m p (mem_assocErase hp))).trans (acts_finalOrder _ _)

theorem acts_grantSlot {s t : State} {k : SlotIdx} (h : s.grantSlot = some (k, t)) : Acts s t := by
  unfold State.grantSlot at h
  split at h
  · rw [Option.some.injEq, Prod.mk.injEq] at h
    rw [← h.2]
    exact .refl s
  · split at h
    · cases h
    · split at h
      · cases h
      · rw [Option.some.injEq, Prod.mk.injEq] at h
        rw [← h.2]
        exact (acts_removeRecord s _).trans (acts_post _ _)

theorem acts_enterStore {s t : State} {i : LaneIdx} {d : DropRec} (h : s.enterStore i d = some t) : Acts s t := by
  unfold State.enterStore at h
  split at h
  · cases h
  · next hg =>
    rw [Option.some.injEq] at h
    rw [← h]
    exact ((acts_grantSlot hg).trans (acts_modLane i _ id)).trans (acts_evaluate _ _ _)

theorem acts_enterParkedN (n : Nat) (s : State) : Acts s (s.enterParkedN n) := by
  induction n generalizing s with
  | zero => exact .refl s
  | succ n ih =>
    unfold State.enterParkedN
    split
    · exact .refl s
    · split
      · exact .refl s
      · split
        · exact .refl s
        · next h => exact ((acts_parkOrder s _).trans (acts_enterStore h)).trans (ih _)

theorem acts_enterParked (s : State) : Acts s s.enterParked := acts_enterParkedN _ s

/-! ## The end of a drain -/

theorem acts_park (s : State) (i : LaneIdx) (d : DropRec) : Acts s (s.park i d) :=
  ((acts_modLane i _ id).trans (acts_parkOrder _ _)).trans (acts_post _ _)

theorem acts_leaveLane (s : State) (i : LaneIdx) (d : DropRec) : Acts s (s.leaveLane i d) := by
  unfold State.leaveLane
  split
  · exact acts_park s i d
  · split
    · next h => exact acts_enterStore h
    · exact acts_park s i d

theorem acts_drainEnd (s : State) (i : LaneIdx) (how : DropEnd) : Acts s (s.drainEnd i how) := by
  unfold State.drainEnd
  split
  · exact .refl s
  · exact (((acts_modLane i _ (fun h => ⟨h.1, Nat.zero_le _⟩)).trans (acts_journalWrite _ i _)).trans (acts_leaveLane _ i _)).trans
      (acts_enterParked _)

theorem acts_quietTest (s : State) (i : LaneIdx) : Acts s (s.quietTest i) := by
  unfold State.quietTest
  split
  · exact acts_drainEnd s i _
  · exact .refl s

theorem acts_cutDrain (s : State) (i : LaneIdx) : Acts s (s.cutDrain i) :=
  ((acts_modLane i _ id).trans (acts_handOverWaiting _ i)).trans (acts_drainEnd _ i _)

theorem acts_beamEdge (s : State) (i : LaneIdx) (x : Beam) : Acts s (s.beamEdge i x) :=
  ((acts_modLane i _ (setBeam_law _ _ _)).trans (acts_deliverEdge _ i x _)).trans (acts_quietTest _ i)

/-! ## The payout stations -/

theorem acts_send (s : State) (x : StationId) (f : StationTx) : Acts s (s.send x f) := acts_modStation x _ id
theorem acts_stationChanged (s : State) (x : StationId) (cause : StationCause) : Acts s (s.stationChanged x cause) := acts_post _ _
theorem acts_setStationState (s : State) (x : StationId) (st : StationState) : Acts s (s.setStationState x st) := acts_modStation x _ id

theorem acts_linkFrame (s : State) (x : StationId) : Acts s (s.linkFrame x) := by
  unfold State.linkFrame
  dsimp only
  split
  · exact acts_modStation x _ id
  · exact (acts_modStation x _ id).trans (acts_post _ _)

theorem acts_startDispense {s : State} (x : StationId) (k : SlotIdx) (r : SettleRec) (notes : Four Nat) (value : Nat)
    (h : s.moneyLaw → r.law) : Acts s (s.startDispense x k r notes value) := by
  have h' : s.moneyLaw → ({ r with state := .dispensing } : SettleRec).law := fun m => ⟨(h m).1, fun e => by cases e⟩
  unfold State.startDispense
  dsimp only
  refine (Acts.trans ?_ (acts_send _ x _)).trans (acts_setStationState _ x _)
  split
  · exact acts_creditMove k _ _ _ (Nat.sub_le _ _) h'
  · exact acts_setRecord k _ h'

theorem acts_serveN (n : Nat) (x : StationId) (s : State) : Acts s (State.serveN n x s) := by
  induction n generalizing s with
  | zero => exact .refl s
  | succ n ih =>
    unfold State.serveN
    split
    · exact .refl s
    · next rest hq =>
      dsimp only
      refine (acts_modStation x (fun t => { t with queue := rest })
        (fun h => by rw [hq] at h; exact Nat.le_of_succ_le h)).trans ?_
      split
      · exact ih _
      · next h =>
        split
        · exact (acts_creditMove _ _ _ _ (Nat.le_refl _) (law_of_recordAt h)).trans (ih _)
        · exact acts_startDispense _ _ _ _ _ (law_of_recordAt h)

theorem acts_serve (s : State) (x : StationId) : Acts s (s.serve x) := by
  unfold State.serve
  split
  · exact acts_serveN _ x s
  · exact .refl s

theorem acts_endDispense (s : State) (x : StationId) : Acts s (s.endDispense x) := by
  unfold State.endDispense
  split
  · exact (acts_setStationState s x _).trans (acts_serve _ x)
  · exact (acts_setStationState s x _).trans (acts_stationChanged _ x _)
  · exact .refl s

theorem acts_returnRecord (s : State) (k : SlotIdx) : Acts s (s.returnRecord k) := by
  unfold State.returnRecord
  split
  · next h => exact acts_awaitClaim k _ (fun m => (law_of_recordAt h m).1)
  · exact .refl s

theorem acts_returnQueue (s : State) (x : StationId) : Acts s (s.returnQueue x) := by
  unfold State.returnQueue
  refine (acts_modStation x (fun t => { t with queue := [] }) (fun _ => Nat.zero_le 4)).trans ?_
  generalize (s.station x).queue = ks
  generalize s.modStation x (fun t => { t with queue := [] }) = t
  induction ks generalizing t with
  | nil => exact .refl t
  | cons k ks ih => exact (acts_returnRecord t k).trans (ih _)

theorem acts_unresolvedMove {s : State} (x : StationId) (k : SlotIdx) (r : SettleRec) (notes : Option (Four Nat)) (step : StepTag)
    (cause : StationCause) (h : s.moneyLaw → r.law) : Acts s (s.unresolvedMove x k r notes step cause) := by
  refine (acts_becomeFinal k _ _ (by intro h; cases h) ?_).trans (acts_post _ _)
  intro m
  have := (h m).1
  show r.cashPaid + r.creditIssued + 0 + (r.unresolvedAmount + r.outstanding) ≤ r.amount
  unfold SettleRec.money at this
  omega

theorem acts_enterFault (s : State) (x : StationId) (cause : StationCause) : Acts s (s.enterFault x cause) :=
  ((acts_modStation x _ id).trans (acts_stationChanged _ x _)).trans (acts_returnQueue _ x)

theorem acts_failDispense (s : State) (x : StationId) (d : Dispense) (picked : Option (Four Nat)) (cause : StationCause) :
    Acts s (s.failDispense x d picked cause) := by
  unfold State.failDispense
  dsimp only
  refine Acts.trans ?_ (acts_enterFault _ x _)
  split
  · exact .refl s
  · next h =>
    split
    · exact acts_awaitClaim _ _ (fun m => (law_of_recordAt h m).1)
    · exact acts_unresolvedMove _ _ _ _ _ _ (law_of_recordAt h)

theorem acts_setCounts (s : State) (x : StationId) (counts : Four Nat) : Acts s (s.setCounts x counts) :=
  (acts_modStation x _ id).trans (acts_postAll _ _)

theorem acts_testLoaded (s : State) (x : StationId) : Acts s (s.testLoaded x) := (acts_modStation x _ id).trans (acts_postAll _ _)

theorem acts_answer (s : State) (x : StationId) (number : Nat) (a : Answer) (extra cash : Nat) :
    Acts s (s.answer x number a extra cash) := (acts_countYard s _).trans (acts_send _ x _)

theorem acts_judgeClaim (s : State) (x : StationId) (number code : Nat) : Acts s (s.judgeClaim x number code) := by
  have found : ∀ {k r}, s.claimRecord number = some (k, r) → s.moneyLaw → r.law := by
    intro k r h m
    unfold State.claimRecord at h
    split at h
    · cases h
    · exact m _ (List.mem_of_find?_eq_some h)
  unfold State.judgeClaim
  split
  · exact acts_answer _ _ _ _ _ _
  · next k r h =>
    split
    · exact acts_answer _ _ _ _ _ _
    · split
      · exact acts_answer _ _ _ _ _ _
      · exact acts_answer _ _ _ _ _ _
      · exact acts_answer _ _ _ _ _ _
      · next hst =>
        have hr : ∀ n, s.moneyLaw → ({ r with badChecks := n } : SettleRec).law := fun n m => ⟨(found h m).1, (found h m).2⟩
        split
        · exact acts_answer _ _ _ _ _ _
        · split
          · unfold State.badCode
            dsimp only
            split
            · exact (acts_setRecord k _ (hr _)).trans (acts_answer _ _ _ _ _ _)
            · exact (acts_creditMove k _ _ _ (Nat.le_refl _) (hr _)).trans (acts_answer _ _ _ _ _ _)
          · split
            · exact acts_answer _ _ _ _ _ _
            · next hq =>
              have room : ((s.setRecord k { r with state := .claimed }).station x).queue.length + 1 ≤ 4 := by
                cases x <;> exact Nat.lt_of_not_le hq
              exact (((acts_setRecord k { r with state := .claimed } (fun m => ⟨(found h m).1, fun e => by cases e⟩)).trans
                (acts_modStation x _ (fun _ => by rw [List.length_append]; exact room))).trans
                (acts_answer _ _ _ _ _ _)).trans (acts_serve _ x)
      · exact acts_answer _ _ _ _ _ _

theorem acts_takePick (s : State) (x : StationId) (d : Dispense) (picked : Four Nat) : Acts s (s.takePick x d picked) := by
  unfold State.takePick
  dsimp only
  split
  · exact (acts_failDispense s x d _ _).trans (acts_setCounts _ x _)
  · split
    · exact acts_setCounts s x _
    · next r h =>
      have step : Acts s (if valueOf (s.station x).cassettes picked < r.outstanding
          then (s.setCounts x (countsAfterPick (s.station x).cassettes d.ordered picked)).creditMove d.slot r
            (r.outstanding - valueOf (s.station x).cassettes picked) .shortfall
          else s.setCounts x (countsAfterPick (s.station x).cassettes d.ordered picked)) := by
        split
        · exact (acts_setCounts s x _).trans (acts_creditMove _ _ _ _ (Nat.sub_le _ _) (law_of_recordAt h))
        · exact acts_setCounts s x _
      split
      · exact step.trans (acts_endDispense _ x)
      · exact step.trans (acts_modStation x _ id)

theorem acts_takePayment (s : State) (x : StationId) (d : Dispense) (picked : Four Nat) : Acts s (s.takePayment x d picked) := by
  unfold State.takePayment
  split
  · exact acts_endDispense s x
  · next r h =>
    refine ((acts_becomeFinal _ _ _ (by intro h; cases h) ?_).trans (acts_post _ _)).trans (acts_endDispense _ x)
    intro m
    have := (law_of_recordAt h m).1
    show r.cashPaid + r.outstanding + r.creditIssued + 0 + r.unresolvedAmount ≤ r.amount
    unfold SettleRec.money at this
    omega

theorem acts_takeRetract (s : State) (x : StationId) (d : Dispense) (picked : Four Nat) : Acts s (s.takeRetract x d picked) := by
  unfold State.takeRetract
  split
  · exact acts_endDispense s x
  · next r h =>
    dsimp only
    have hr : s.moneyLaw → ({ r with retracts := r.retracts + 1 } : SettleRec).law :=
      fun m => ⟨(law_of_recordAt h m).1, (law_of_recordAt h m).2⟩
    refine (Acts.trans (acts_modStation x (fun t =>
      { t with retractValue := Config.fit .retractValue Config.moneyMax (t.retractValue + r.outstanding)
               retractNotes := Config.fit .retractNotes Config.retractNotesMax (t.retractNotes + noteCount picked) }) id) ?_).trans
      (acts_endDispense _ x)
    have hr' : ∀ f, (s.modStation x f).moneyLaw → ({ r with retracts := r.retracts + 1 } : SettleRec).law := by
      intro f m
      exact hr (by cases x <;> exact m)
    split
    · exact acts_awaitClaim _ _ (fun m => (hr' _ m).1)
    · exact acts_creditMove _ _ _ _ (Nat.le_refl _) (hr' _)

theorem acts_dispenserFault (s : State) (x : StationId) (code : Nat) : Acts s (s.dispenserFault x code) := by
  unfold State.dispenserFault
  split
  · exact acts_failDispense s x _ _ _
  · exact acts_failDispense s x _ _ _
  · exact acts_enterFault s x _
  · exact (acts_modStation x _ id).trans (acts_stationChanged _ x _)

theorem acts_loseLink (s : State) (x : StationId) : Acts s (s.loseLink x) := by
  unfold State.loseLink
  dsimp only
  refine (acts_modStation x (fun t => { t with link := .lost }) id).trans ?_
  split
  · exact acts_failDispense _ x _ _ _
  · exact acts_failDispense _ x _ _ _
  · exact acts_enterFault _ x _
  · exact acts_stationChanged _ x _

/-- A frame on a station link. -/
theorem acts_stationFrame (s : State) (x : StationId) (f : Option StationFrame) : Acts s (s.stationFrame x f) := by
  unfold State.stationFrame
  split
  · exact acts_modStation x _ id
  · exact acts_linkFrame s x
  · exact ((acts_linkFrame s x).trans (acts_judgeClaim _ x _ _)).trans (acts_enterParked _)
  · refine ((acts_linkFrame s x).trans ?_).trans (acts_enterParked _)
    unfold State.pickedArrives
    split
    · exact .refl _
    · split
      · exact acts_takePick _ x _ _
      · exact acts_failDispense _ x _ _ _
  · refine ((acts_linkFrame s x).trans ?_).trans (acts_enterParked _)
    unfold State.presentedArrives
    split
    · exact .refl _
    · split
      · unfold State.takePresented
        exact acts_modStation x _ id
      · exact acts_failDispense _ x _ _ _
  · refine ((acts_linkFrame s x).trans ?_).trans (acts_enterParked _)
    unfold State.takenArrives
    split
    · exact .refl _
    · split
      · exact acts_takePayment _ x _ _
      · exact acts_failDispense _ x _ _ _
  · refine ((acts_linkFrame s x).trans ?_).trans (acts_enterParked _)
    unfold State.retractedArrives
    split
    · exact .refl _
    · split
      · exact acts_takeRetract _ x _ _
      · exact acts_failDispense _ x _ _ _
  · exact ((acts_linkFrame s x).trans (acts_dispenserFault _ x _)).trans (acts_enterParked _)

/-! ## Requests whose effects lie in one block -/

theorem acts_turnLaneOff (s : State) (i : LaneIdx) : Acts s (s.turnLaneOff i) := by
  unfold State.turnLaneOff
  dsimp only
  exact (((acts_handOverWaiting s i).trans (acts_dropEarly _ i)).trans (acts_abandonItems _ i _)).trans
    (acts_modLane i Lane.turnOff (fun h => ⟨h.1, Nat.zero_le _⟩))

theorem acts_abandonOnLane (s : State) (i : LaneIdx) (d : LaneDrop) : Acts s (s.abandonOnLane i d) := by
  have tail : ∀ (t : State) (order : List LaneIdx) (b : JournalBody) (n : Nat) (b' : State → NoticeBody), Acts s t →
      let u := ({ t with parkOrder := order }.modLane i (fun l => { l with rejects := [] })).journalWrite i b
      Acts s (((u.removeSightings n).modLane i (fun l => { l with drop := none })).post (b' u)) := by
    intro t order b n b' h
    refine (((h.trans (acts_parkOrder t order)).trans (acts_modLane i (fun l => { l with rejects := [] })
      (fun h => ⟨h.1, Nat.zero_le _⟩))).trans (acts_journalWrite _ i b)).trans ?_
    refine (acts_sightings _ (fun h => ?_)).trans ((acts_modLane i (fun l => { l with drop := none }) id).trans (acts_post _ _))
    exact Nat.le_trans (List.length_filter_le _ _) h
  unfold State.abandonOnLane
  obtain ⟨r, st⟩ := d
  cases st
  · exact tail _ _ _ _ (fun u => .dropVoid _ i _ (u.sightingsOf _)) (acts_handOverWaiting s i)
  · exact tail _ _ _ _ (fun u => .dropVoid _ i _ (u.sightingsOf _)) (acts_handOverWaiting s i)
  · exact tail _ _ _ _ (fun u => .dropVoid _ i _ (u.sightingsOf _)) (.refl s)

theorem acts_voidRecord (s : State) (k : SlotIdx) (r : SettleRec) : Acts s (s.voidRecord k r) := by
  unfold State.voidRecord
  dsimp only
  refine (acts_becomeFinal k
    { r with amount := 0, cashPart := 0, cashPaid := 0, creditIssued := 0, outstanding := 0, unresolvedAmount := 0 } .void
    (by intro h; cases h) (fun _ => Nat.le_refl _)).trans ?_
  refine (acts_sightings _ (fun h => ?_)).trans (acts_post _ _)
  exact Nat.le_trans (List.length_filter_le _ _) h

end Sys2Proof.Machine
end

