-- ==== Sys2Proof/Laws/Buffer.lean ====
section
/-! SUPPORT. What waits in the request buffer decides nothing of what a request does but the count PART.PING answers (R176, R181): every
operation a request runs through does the same with any other requests waiting, one lemma for each; and how a request meets the buffer. -/

namespace Sys2Proof.Machine

/-! ## The fields of a part with these requests waiting -/

@[simp] theorem buffering_rstHeld (s : State) (b : List Frame) : (s.buffering b).rstHeld = s.rstHeld := rfl
@[simp] theorem buffering_now (s : State) (b : List Frame) : (s.buffering b).now = s.now := rfl
@[simp] theorem buffering_yard (s : State) (b : List Frame) : (s.buffering b).yard = s.yard := rfl
@[simp] theorem buffering_lanes (s : State) (b : List Frame) : (s.buffering b).lanes = s.lanes := rfl
@[simp] theorem buffering_tables (s : State) (b : List Frame) : (s.buffering b).tables = s.tables := rfl
@[simp] theorem buffering_holdPeriod (s : State) (b : List Frame) : (s.buffering b).holdPeriod = s.holdPeriod := rfl
@[simp] theorem buffering_sightings (s : State) (b : List Frame) : (s.buffering b).sightings = s.sightings := rfl
@[simp] theorem buffering_lastDrop (s : State) (b : List Frame) : (s.buffering b).lastDrop = s.lastDrop := rfl
@[simp] theorem buffering_checkPos (s : State) (b : List Frame) : (s.buffering b).checkPos = s.checkPos := rfl
@[simp] theorem buffering_parkOrder (s : State) (b : List Frame) : (s.buffering b).parkOrder = s.parkOrder := rfl
@[simp] theorem buffering_store (s : State) (b : List Frame) : (s.buffering b).store = s.store := rfl
@[simp] theorem buffering_finalOrder (s : State) (b : List Frame) : (s.buffering b).finalOrder = s.finalOrder := rfl
@[simp] theorem buffering_stationA (s : State) (b : List Frame) : (s.buffering b).stationA = s.stationA := rfl
@[simp] theorem buffering_stationB (s : State) (b : List Frame) : (s.buffering b).stationB = s.stationB := rfl
@[simp] theorem buffering_choices (s : State) (b : List Frame) : (s.buffering b).choices = s.choices := rfl
@[simp] theorem buffering_pending (s : State) (b : List Frame) : (s.buffering b).pending = s.pending := rfl
@[simp] theorem buffering_rx (s : State) (b : List Frame) : (s.buffering b).host.rx = s.host.rx := rfl
@[simp] theorem buffering_reqBuf (s : State) (b : List Frame) : (s.buffering b).host.reqBuf = b := rfl
@[simp] theorem buffering_reply (s : State) (b : List Frame) : (s.buffering b).host.reply = s.host.reply := rfl
@[simp] theorem buffering_tx (s : State) (b : List Frame) : (s.buffering b).host.tx = s.host.tx := rfl
@[simp] theorem buffering_notices (s : State) (b : List Frame) : (s.buffering b).host.notices = s.host.notices := rfl
@[simp] theorem buffering_latch (s : State) (b : List Frame) : (s.buffering b).host.latch = s.host.latch := rfl
@[simp] theorem buffering_filter (s : State) (b : List Frame) : (s.buffering b).host.filter = s.host.filter := rfl
@[simp] theorem buffering_clock (s : State) (b : List Frame) : (s.buffering b).host.clock = s.host.clock := rfl
@[simp] theorem buffering_clockBase (s : State) (b : List Frame) : (s.buffering b).host.clockBase = s.host.clockBase := rfl
@[simp] theorem buffering_nextNotice (s : State) (b : List Frame) : (s.buffering b).host.nextNotice = s.host.nextNotice := rfl

/-! ## Reads and plain updates -/

@[simp] theorem buffering_buffering (s : State) (a b : List Frame) : (s.buffering a).buffering b = s.buffering b := rfl
@[simp] theorem lane_buffering (s : State) (b : List Frame) (i : LaneIdx) : (s.buffering b).lane i = s.lane i := rfl
@[simp] theorem station_buffering (s : State) (b : List Frame) (x : StationId) :
    (s.buffering b).station x = s.station x := by cases x <;> rfl
@[simp] theorem stamp_buffering (s : State) (b : List Frame) : (s.buffering b).stamp = s.stamp := rfl
@[simp] theorem seqNext_buffering (s : State) (b : List Frame) (i) : (s.buffering b).seqNext i = s.seqNext i := rfl
@[simp] theorem recordAt_buffering (s : State) (b : List Frame) (i) : (s.buffering b).recordAt i = s.recordAt i := rfl
@[simp] theorem modLane_buffering (s : State) (b : List Frame) (i : LaneIdx) (f) :
    (s.buffering b).modLane i f = (s.modLane i f).buffering b := rfl
@[simp] theorem modStation_buffering (s : State) (b : List Frame) (i) (f) :
    (s.buffering b).modStation i f = (s.modStation i f).buffering b := by cases i <;> rfl
@[simp] theorem count_buffering (s : State) (b : List Frame) (i : LaneIdx) (f) :
    (s.buffering b).count i f = (s.count i f).buffering b := rfl
@[simp] theorem countYard_buffering (s : State) (b : List Frame) (f) : (s.buffering b).countYard f = (s.countYard f).buffering b := rfl
@[simp] theorem setRecord_buffering (s : State) (b : List Frame) (i) (f) :
    (s.buffering b).setRecord i f = (s.setRecord i f).buffering b := rfl
@[simp] theorem becomeFinal_buffering (s : State) (b : List Frame) (i r f) :
    (s.buffering b).becomeFinal i r f = (s.becomeFinal i r f).buffering b := rfl
@[simp] theorem leaveQueues_buffering (s : State) (b : List Frame) (i) :
    (s.buffering b).leaveQueues i = (s.leaveQueues i).buffering b := rfl
@[simp] theorem removeRecord_buffering (s : State) (b : List Frame) (i) :
    (s.buffering b).removeRecord i = (s.removeRecord i).buffering b := rfl
@[simp] theorem removeSightings_buffering (s : State) (b : List Frame) (i) :
    (s.buffering b).removeSightings i = (s.removeSightings i).buffering b := rfl
@[simp] theorem detachSightings_buffering (s : State) (b : List Frame) (i) :
    (s.buffering b).detachSightings i = (s.detachSightings i).buffering b := rfl
@[simp] theorem refresh_buffering (s : State) (b : List Frame) (i) : (s.buffering b).refresh i = (s.refresh i).buffering b := rfl

/-! ## Notices, the journal and records -/

theorem buffering_ite (c : Prop) [Decidable c] (s t : State) (b : List Frame) :
    (if c then s else t).buffering b = if c then s.buffering b else t.buffering b := by split <;> rfl
@[simp] theorem enqueue_buffering (s : State) (b : List Frame) (n : NoticeBody) :
    (s.buffering b).enqueue n = (s.enqueue n).buffering b := by
  unfold State.enqueue
  dsimp only
  rw [buffering_ite, buffering_ite]
  rfl
@[simp] theorem post_buffering (s : State) (b : List Frame) (n : NoticeBody) : (s.buffering b).post n = (s.post n).buffering b := by
  unfold State.post
  rw [buffering_ite, enqueue_buffering]
  rfl
@[simp] theorem postAll_buffering (s : State) (b : List Frame) (n : List NoticeBody) :
    (s.buffering b).postAll n = (s.postAll n).buffering b := by
  unfold State.postAll
  induction n generalizing s with
  | nil => rfl
  | cons x xs ih => simp only [List.foldl_cons, post_buffering, ih]
@[simp] theorem journalWrite_buffering (s : State) (b : List Frame) (i x) :
    (s.buffering b).journalWrite i x = (s.journalWrite i x).buffering b := by
  unfold State.journalWrite; simp
@[simp] theorem creditMove_buffering (s : State) (b : List Frame) (i x z y) :
    (s.buffering b).creditMove i x z y = (s.creditMove i x z y).buffering b := by
  unfold State.creditMove
  dsimp only
  by_cases h : x.outstanding - z = 0 <;> simp [h]

/-! ## Lanes -/

@[simp] theorem modCounting_buffering (s : State) (b : List Frame) (i : LaneIdx) (f : DropRec → DropRec) :
    (s.buffering b).modCounting i f = (s.modCounting i f).buffering b := rfl
@[simp] theorem accumulate_buffering (s : State) (b : List Frame) (i : LaneIdx) :
    (s.buffering b).accumulate i = (s.accumulate i).buffering b := by
  unfold State.accumulate
  dsimp only
  rw [buffering_ite, buffering_ite, count_buffering, modLane_buffering, modLane_buffering, post_buffering]
  rfl
@[simp] theorem joinWindow_buffering (s : State) (b : List Frame) (i : LaneIdx) (bad : Bool) :
    (s.buffering b).joinWindow i bad = (s.joinWindow i bad).buffering b := by
  unfold State.joinWindow
  dsimp only
  simp only [buffering_ite, modLane_buffering, journalWrite_buffering, post_buffering, lane_buffering]
  rfl
@[simp] theorem joinRejects_buffering (s : State) (b : List Frame) (i : LaneIdx) (e : RejectEntry) :
    (s.buffering b).joinRejects i e = (s.joinRejects i e).buffering b := rfl

/-! ## Tables, and what is read of them and of the records -/

@[simp] theorem tableFaults_buffering (s : State) (b : List Frame) (t : TableName) (ks : List Nat) :
    (s.buffering b).tableFaults t ks = (s.tableFaults t ks).buffering b := by
  unfold State.tableFaults
  induction ks generalizing s with
  | nil => rfl
  | cons k ks ih => simp only [List.foldl_cons, post_buffering, countYard_buffering, ih]
@[simp] theorem examineClasses_buffering (s : State) (b : List Frame)  :
    (s.buffering b).examineClasses = (s.examineClasses).buffering b :=
  tableFaults_buffering { s with tables := { s.tables with classes := sweep s.tables.classes } } b _ _
@[simp] theorem examineMarks_buffering (s : State) (b : List Frame)  :
    (s.buffering b).examineMarks = (s.examineMarks).buffering b :=
  tableFaults_buffering { s with tables := { s.tables with marks := sweep s.tables.marks } } b _ _
@[simp] theorem examineAccounts_buffering (s : State) (b : List Frame)  :
    (s.buffering b).examineAccounts = (s.examineAccounts).buffering b :=
  tableFaults_buffering { s with tables := { s.tables with accounts := sweep s.tables.accounts } } b _ _
@[simp] theorem examineClassAt_buffering (s : State) (b : List Frame) (k : Nat) :
    (s.buffering b).examineClassAt k = (s.examineClassAt k).buffering b :=
  tableFaults_buffering { s with tables := { s.tables with classes := sweepAt s.tables.classes k } } b _ _
@[simp] theorem examineMarkAt_buffering (s : State) (b : List Frame) (k : Nat) :
    (s.buffering b).examineMarkAt k = (s.examineMarkAt k).buffering b :=
  tableFaults_buffering { s with tables := { s.tables with marks := sweepAt s.tables.marks k } } b _ _
@[simp] theorem examinePoolAt_buffering (s : State) (b : List Frame) (k : Nat) :
    (s.buffering b).examinePoolAt k = (s.examinePoolAt k).buffering b :=
  tableFaults_buffering { s with tables := { s.tables with pools := sweepAt s.tables.pools k } } b _ _
@[simp] theorem examineAccountAt_buffering (s : State) (b : List Frame) (k : Nat) :
    (s.buffering b).examineAccountAt k = (s.examineAccountAt k).buffering b :=
  tableFaults_buffering { s with tables := { s.tables with accounts := sweepAt s.tables.accounts k } } b _ _
@[simp] theorem classOf_buffering (s : State) (b : List Frame) (o t : Nat) :
    (s.buffering b).classOf o t = s.classOf o t := rfl
@[simp] theorem markAt_buffering (s : State) (b : List Frame) (o n : Nat) :
    (s.buffering b).markAt o n = s.markAt o n := rfl
@[simp] theorem accountOf_buffering (s : State) (b : List Frame) (n : Nat) :
    (s.buffering b).accountOf n = s.accountOf n := rfl
@[simp] theorem poolAt_buffering (s : State) (b : List Frame) (n : Nat) :
    (s.buffering b).poolAt n = s.poolAt n := rfl
@[simp] theorem accountOrStandIn_buffering (s : State) (b : List Frame) (n : Nat) :
    (s.buffering b).accountOrStandIn n = s.accountOrStandIn n := rfl
@[simp] theorem findRecord_buffering (s : State) (b : List Frame) (n : Nat) :
    (s.buffering b).findRecord n = s.findRecord n := rfl
@[simp] theorem findLaneDrop_buffering (s : State) (b : List Frame) (n : Nat) :
    (s.buffering b).findLaneDrop n = s.findLaneDrop n := rfl
@[simp] theorem holder_buffering (s : State) (b : List Frame) (n : Nat) :
    (s.buffering b).holder n = s.holder n := rfl
@[simp] theorem freshDeadline_buffering (s : State) (b : List Frame) (r : SettleRec) :
    (s.buffering b).freshDeadline r = s.freshDeadline r := rfl
@[simp] theorem freeSlot_buffering (s : State) (b : List Frame)  :
    (s.buffering b).freeSlot = s.freeSlot := rfl
@[simp] theorem numberFree_buffering (s : State) (b : List Frame) (n : Nat) :
    (s.buffering b).numberFree n = s.numberFree n := rfl
@[simp] theorem nextDropNumber_buffering (s : State) (b : List Frame)  :
    (s.buffering b).nextDropNumber = s.nextDropNumber := rfl
@[simp] theorem sightingsOf_buffering (s : State) (b : List Frame) (n : Nat) :
    (s.buffering b).sightingsOf n = s.sightingsOf n := rfl
@[simp] theorem aged_buffering (s : State) (b : List Frame) (e : Sighting) :
    (s.buffering b).aged e = s.aged e := rfl
@[simp] theorem poolNamed_buffering (s : State) (b : List Frame) (n : Nat) :
    (s.buffering b).poolNamed n = s.poolNamed n := rfl
@[simp] theorem accountNamed_buffering (s : State) (b : List Frame) (n : Nat) :
    (s.buffering b).accountNamed n = s.accountNamed n := rfl
@[simp] theorem recordView_buffering (s : State) (b : List Frame) (k : SlotIdx) (r : SettleRec) :
    (s.buffering b).recordView k r = s.recordView k r := rfl
@[simp] theorem numberOf_buffering (s : State) (b : List Frame) (k : SlotIdx) :
    (s.buffering b).numberOf k = s.numberOf k := rfl
@[simp] theorem stationView_buffering (s : State) (b : List Frame) (x : StationId) :
    (s.buffering b).stationView x = s.stationView x := rfl
@[simp] theorem sightView_buffering (s : State) (b : List Frame) (e : Sighting) :
    (s.buffering b).sightView e = s.sightView e := rfl
@[simp] theorem sightResult_buffering (s : State) (b : List Frame) (e : Option Sighting) :
    (s.buffering b).sightResult e = s.sightResult e := rfl
@[simp] theorem laneDropView_buffering (s : State) (b : List Frame) (i : LaneIdx) (d : LaneDrop) :
    (s.buffering b).laneDropView i d = s.laneDropView i d := rfl
@[simp] theorem recordResult_buffering (s : State) (b : List Frame) (e : Option (SlotIdx × SettleRec)) :
    (s.buffering b).recordResult e = s.recordResult e := rfl
@[simp] theorem mayRestart_buffering (s : State) (b : List Frame)  :
    (s.buffering b).mayRestart = s.mayRestart := rfl

/-! ## The Settlement Store -/

@[simp] theorem awaitClaim_buffering (s : State) (b : List Frame) (k : SlotIdx) (r : SettleRec) :
    (s.buffering b).awaitClaim k r = (s.awaitClaim k r).buffering b := rfl
@[simp] theorem settle_buffering (s : State) (b : List Frame) (k : SlotIdx) (r : SettleRec) :
    (s.buffering b).settle k r = (s.settle k r).buffering b := by
  unfold State.settle
  dsimp only
  simp only [examineAccounts_buffering, accountOrStandIn_buffering, post_buffering, ← buffering_ite, becomeFinal_buffering, awaitClaim_buffering]
@[simp] theorem evaluate_buffering (s : State) (b : List Frame) (k : SlotIdx) (d : DropRec) :
    (s.buffering b).evaluate k d = (s.evaluate k d).buffering b := by
  unfold State.evaluate
  dsimp only
  simp only [examineAccounts_buffering, accountOrStandIn_buffering, setRecord_buffering, post_buffering, settle_buffering, buffering_ite]
@[simp] theorem grantSlot_buffering (s : State) (b : List Frame)  :
    (s.buffering b).grantSlot = (s.grantSlot).map (fun p => (p.1, p.2.buffering b)) := by
  unfold State.grantSlot
  simp only [freeSlot_buffering, buffering_finalOrder, recordAt_buffering, removeRecord_buffering, post_buffering]
  cases s.freeSlot with
  | some k => rfl
  | none =>
    cases s.finalOrder with
    | nil => rfl
    | cons k ks => dsimp only; cases s.recordAt k <;> rfl
@[simp] theorem enterStore_buffering (s : State) (b : List Frame) (i : LaneIdx) (d : DropRec) :
    (s.buffering b).enterStore i d = (s.enterStore i d).map (fun t => t.buffering b) := by
  unfold State.enterStore
  rw [grantSlot_buffering]
  cases s.grantSlot with
  | none => rfl
  | some p => exact congrArg some ((congrArg (fun u : State => u.evaluate p.1 d) (modLane_buffering p.2 b i _)).trans (evaluate_buffering _ b _ _))
theorem enterParkedN_buffering (n : Nat) (s : State) (b : List Frame) :
    State.enterParkedN n (s.buffering b) = (State.enterParkedN n s).buffering b := by
  induction n generalizing s with
  | zero => rfl
  | succ n ih =>
    unfold State.enterParkedN
    rw [buffering_parkOrder]
    cases s.parkOrder with
    | nil => rfl
    | cons i rest =>
      dsimp only
      rw [lane_buffering]
      cases (s.lane i).drop with
      | none => rfl
      | some d =>
        dsimp only
        have e : ({ s.buffering b with parkOrder := rest } : State).enterStore i d.record =
            (({ s with parkOrder := rest } : State).enterStore i d.record).map (fun t => t.buffering b) :=
          enterStore_buffering { s with parkOrder := rest } b i _
        rw [e]
        cases ({ s with parkOrder := rest } : State).enterStore i d.record with
        | none => rfl
        | some t => exact ih t
@[simp] theorem enterParked_buffering (s : State) (b : List Frame)  :
    (s.buffering b).enterParked = (s.enterParked).buffering b := enterParkedN_buffering _ s b

/-! ## The item path -/

@[simp] theorem learn_buffering (s : State) (b : List Frame) (o n : Nat) (i : LaneIdx) (d : Nat) :
    (s.buffering b).learn o n i d = (s.learn o n i d).buffering b := by
  unfold State.learn
  dsimp only
  simp only [buffering_ite]
  rfl
@[simp] theorem judgeKeg_buffering (s : State) (b : List Frame) (i : LaneIdx) (drop : Nat) (c : Code) (w cls tare ul full ch base : Nat)
    (al : List AlertReason) :
    (s.buffering b).judgeKeg i drop c w cls tare ul full ch base al =
        ((s.judgeKeg i drop c w cls tare ul full ch base al).1.buffering b, (s.judgeKeg i drop c w cls tare ul full ch base al).2) := by
  unfold State.judgeKeg
  rw [buffering_sightings]
  cases sightingOf s.sightings c.owner c.serial with
  | some e => rfl
  | none => exact congrArg (fun u : State => (u, _)) (learn_buffering s b _ _ i drop)
@[simp] theorem ladderKeg_buffering (s : State) (b : List Frame) (i : LaneIdx) (drop : Nat) (c : Code) (w u cls tare ul full ch base : Nat) :
    (s.buffering b).ladderKeg i drop c w u cls tare ul full ch base =
        ((s.ladderKeg i drop c w u cls tare ul full ch base).1.buffering b, (s.ladderKeg i drop c w u cls tare ul full ch base).2) := by
  unfold State.ladderKeg
  by_cases h : c.serial = 0
  · simp only [h, if_true]
  · simp only [h, if_false, examineMarks_buffering, markAt_buffering]
    split
    · rfl
    · exact judgeKeg_buffering _ b _ _ _ _ _ _ _ _ _ _ _
@[simp] theorem dropPool_buffering (s : State) (b : List Frame) (a : Nat) :
    (s.buffering b).dropPool a = ((s.dropPool a).1.buffering b, (s.dropPool a).2) := by
  unfold State.dropPool
  dsimp only
  rw [examineAccounts_buffering, accountOf_buffering]
  cases s.examineAccounts.accountOf a with
  | none => rfl
  | some p => dsimp only; rw [examinePoolAt_buffering]; rfl
@[simp] theorem ladderPool_buffering (s : State) (b : List Frame) (i : LaneIdx) (d : DropRec) (c : Code) (m : Measurement) (u cls : Nat)
    (e : ClassEntry) :
    (s.buffering b).ladderPool i d c m u cls e = ((s.ladderPool i d c m u cls e).1.buffering b, (s.ladderPool i d c m u cls e).2) := by
  unfold State.ladderPool
  rw [dropPool_buffering]
  rcases s.dropPool d.account with ⟨t, _ | p⟩
  · rfl
  · dsimp only
    by_cases h : p.accepted.getLsbD cls = true
    · simp only [h, if_true]
      cases e.part with
      | crate limit => dsimp only; by_cases h : limit < m.value <;> simp only [h, if_true, if_false]
      | keg tare ullage full charge => exact ladderKeg_buffering _ b _ _ _ _ _ _ _ _ _ _ _
    · simp only [h]; rfl
@[simp] theorem ladder_buffering (s : State) (b : List Frame) (i : LaneIdx) (d : DropRec) (c : Capture) :
    (s.buffering b).ladder i d c = ((s.ladder i d c).1.buffering b, (s.ladder i d c).2) := by
  unfold State.ladder
  cases c with
  | ok code m =>
    simp only [lane_buffering, examineClasses_buffering, classOf_buffering]
    cases s.examineClasses.classOf code.owner code.type with
    | none => rfl
    | some p =>
      dsimp only
      by_cases h : p.2.part.kind = (s.lane i).cfg.kind
      · simp only [h, if_true]; exact ladderPool_buffering _ b _ _ _ _ _ _ _
      · simp only [h, if_false]
  | _ => rfl
@[simp] theorem listAndAlert_buffering (s : State) (b : List Frame) (i : LaneIdx) (drop seq : Nat) (it : Item) (v : Verdict) (o : ItemOutcome) :
    (s.buffering b).listAndAlert i drop seq it v o = (s.listAndAlert i drop seq it v o).buffering b := by
  unfold State.listAndAlert
  cases o.paying <;> dsimp only <;> split <;> simp only [joinRejects_buffering, post_buffering]
@[simp] theorem applyVerdict_buffering (s : State) (b : List Frame) (i : LaneIdx) (d : DropRec) (it : Item) (v : Verdict) :
    (s.buffering b).applyVerdict i d it v = (s.applyVerdict i d it v).buffering b := by
  unfold State.applyVerdict
  simp only [modLane_buffering, journalWrite_buffering, joinWindow_buffering, listAndAlert_buffering, seqNext_buffering, buffering_now]
@[simp] theorem classify_buffering (s : State) (b : List Frame) (i : LaneIdx) (d : DropRec) (it : Item) :
    (s.buffering b).classify i d it = (s.classify i d it).buffering b := by
  unfold State.classify
  simp only [ladder_buffering, applyVerdict_buffering]
@[simp] theorem stray_buffering (s : State) (b : List Frame) (i : LaneIdx) (it : Item) :
    (s.buffering b).stray i it = (s.stray i it).buffering b := by
  unfold State.stray
  simp only [seqNext_buffering, journalWrite_buffering, count_buffering, post_buffering, buffering_now]
@[simp] theorem handOver_buffering (s : State) (b : List Frame) (i : LaneIdx) (it : FwdItem) (c : Nat) :
    (s.buffering b).handOver i it c = (s.handOver i it c).buffering b := by
  unfold State.handOver
  simp only [lane_buffering, count_buffering, accumulate_buffering]
  split <;> simp only [classify_buffering, stray_buffering]
@[simp] theorem endGrace_buffering (s : State) (b : List Frame) (i : LaneIdx) :
    (s.buffering b).endGrace i = (s.endGrace i).buffering b := by
  unfold State.endGrace
  rw [lane_buffering]
  cases (s.lane i).waiting with
  | none => rfl
  | some w => exact handOver_buffering (s.modLane i (fun l => { l with grace := none, waiting := none })) b _ _ _
@[simp] theorem handOverWaiting_buffering (s : State) (b : List Frame) (i : LaneIdx) :
    (s.buffering b).handOverWaiting i = (s.handOverWaiting i).buffering b := by
  unfold State.handOverWaiting
  rw [buffering_ite, endGrace_buffering]
  rfl

/-! ## The end of a drain -/

@[simp] theorem park_buffering (s : State) (b : List Frame) (i : LaneIdx) (d : DropRec) :
    (s.buffering b).park i d = (s.park i d).buffering b :=
  post_buffering { s.modLane i (fun l => { l with drop := some ⟨d, .parked⟩ }) with parkOrder := s.parkOrder ++ [i] } b _
@[simp] theorem leaveLane_buffering (s : State) (b : List Frame) (i : LaneIdx) (d : DropRec) :
    (s.buffering b).leaveLane i d = (s.leaveLane i d).buffering b := by
  unfold State.leaveLane
  rw [buffering_parkOrder, park_buffering, enterStore_buffering]
  cases s.parkOrder with
  | cons j js => rfl
  | nil => dsimp only; cases s.enterStore i d <;> rfl
@[simp] theorem drainEnd_buffering (s : State) (b : List Frame) (i : LaneIdx) (how : DropEnd) :
    (s.buffering b).drainEnd i how = (s.drainEnd i how).buffering b := by
  unfold State.drainEnd
  rw [lane_buffering]
  cases (s.lane i).drop with
  | none => rfl
  | some d => simp only [modLane_buffering, journalWrite_buffering, leaveLane_buffering, enterParked_buffering, buffering_clock, seqNext_buffering]
@[simp] theorem quietTest_buffering (s : State) (b : List Frame) (i : LaneIdx) :
    (s.buffering b).quietTest i = (s.quietTest i).buffering b := by
  unfold State.quietTest
  rw [buffering_ite, drainEnd_buffering]
  rfl

/-! ## What requests use of lanes, stations and sightings -/

@[simp] theorem dropEarly_buffering (s : State) (b : List Frame) (i : LaneIdx) :
    (s.buffering b).dropEarly i = (s.dropEarly i).buffering b := by
  unfold State.dropEarly
  simp only [buffering_ite]
  rfl
@[simp] theorem abandonItems_buffering (s : State) (b : List Frame) (i : LaneIdx) (g : Gate) :
    (s.buffering b).abandonItems i g = (s.abandonItems i g).buffering b := by
  unfold State.abandonItems
  have fold : ∀ (es : List JournalBody) (u : State), es.foldl (fun s e => (s.journalWrite i e).count i .abandoned) (u.buffering b) =
      (es.foldl (fun s e => (s.journalWrite i e).count i .abandoned) u).buffering b := by
    intro es
    induction es with
    | nil => intro u; rfl
    | cons e es ih => intro u; rw [List.foldl_cons, journalWrite_buffering, count_buffering, ih]; rfl
  simp only [lane_buffering, buffering_now, fold, modLane_buffering]
@[simp] theorem stationChanged_buffering (s : State) (b : List Frame) (x : StationId) (c : StationCause) :
    (s.buffering b).stationChanged x c = (s.stationChanged x c).buffering b := by
  unfold State.stationChanged
  rw [station_buffering, post_buffering]
@[simp] theorem setStationState_buffering (s : State) (b : List Frame) (x : StationId) (st : StationState) :
    (s.buffering b).setStationState x st = (s.setStationState x st).buffering b := modStation_buffering s b x _
@[simp] theorem returnRecord_buffering (s : State) (b : List Frame) (k : SlotIdx) :
    (s.buffering b).returnRecord k = (s.returnRecord k).buffering b := by
  unfold State.returnRecord
  rw [recordAt_buffering]
  cases s.recordAt k <;> rfl
@[simp] theorem returnQueue_buffering (s : State) (b : List Frame) (x : StationId) :
    (s.buffering b).returnQueue x = (s.returnQueue x).buffering b := by
  have fold : ∀ (ks : List SlotIdx) (u : State), ks.foldl State.returnRecord (u.buffering b) = (ks.foldl State.returnRecord u).buffering b := by
    intro ks
    induction ks with
    | nil => intro u; rfl
    | cons k ks ih => intro u; rw [List.foldl_cons, returnRecord_buffering, ih]; rfl
  unfold State.returnQueue
  rw [station_buffering, modStation_buffering, fold]
@[simp] theorem testLoaded_buffering (s : State) (b : List Frame) (x : StationId) :
    (s.buffering b).testLoaded x = (s.testLoaded x).buffering b := by
  unfold State.testLoaded
  simp only [station_buffering, modStation_buffering, postAll_buffering]
@[simp] theorem ageAll_buffering (s : State) (b : List Frame)  :
    (s.buffering b).ageAll = (s.ageAll).buffering b := by
  have fold : ∀ (es : List Sighting) (u : State), es.foldl (fun s _ => s.countYard .aged) (u.buffering b) =
      (es.foldl (fun s _ => s.countYard .aged) u).buffering b := by
    intro es
    induction es with
    | nil => intro u; rfl
    | cons e es ih => intro u; rw [List.foldl_cons, countYard_buffering, ih]; rfl
  exact fold _ { s with sightings := s.sightings.filter (fun e => !s.aged e) }

/-! ## The end of an event -/

@[simp] theorem startTx_buffering (s : State) (b : List Frame)  :
    (s.buffering b).startTx = (s.startTx).buffering b := by
  rcases s with ⟨_, _, ⟨_, _, reply, tx, notices, _, _, _, _, _⟩⟩
  cases tx <;> cases reply <;> cases notices <;> rfl
theorem finish_buffering (s : State) (b : List Frame) : finish (s.buffering b) = (finish s).buffering b := startTx_buffering s.repace b

/-! ## What each request does -/

/-- The same answer with these requests waiting. -/
def Answered.buffering (a : Answered) (b : List Frame) : Answered := ⟨a.state.buffering b, a.status, a.result⟩

theorem refuse_buffering (s : State) (b : List Frame) (status : Status) : refuse (s.buffering b) status = (refuse s status).buffering b := rfl

theorem answered_ite (c : Prop) [Decidable c] (x y : Answered) (b : List Frame) :
    (if c then x else y).buffering b = if c then x.buffering b else y.buffering b := by split <;> rfl

theorem setClasses_buffering (s : State) (b : List Frame) (t : Table ClassEntry) :
    (s.buffering b).setClasses t = (s.setClasses t).buffering b := rfl
theorem setMarks_buffering (s : State) (b : List Frame) (t : Table MarkEntry) :
    (s.buffering b).setMarks t = (s.setMarks t).buffering b := rfl
theorem setPools_buffering (s : State) (b : List Frame) (t : Table PoolEntry) :
    (s.buffering b).setPools t = (s.setPools t).buffering b := rfl
theorem setAccounts_buffering (s : State) (b : List Frame) (t : Table AccountEntry) :
    (s.buffering b).setAccounts t = (s.setAccounts t).buffering b := rfl

/-! ## PART and LANE requests -/

theorem restarted_buffering (s : State) (b : List Frame)  : (s.buffering b).restarted = (s.restarted).buffering b := rfl
theorem setClock_buffering (s : State) (b : List Frame) (n : Nat) : (s.buffering b).setClock n = (s.setClock n).buffering b := by
  unfold State.setClock
  repeat' split
  all_goals first | rfl | (simp_all <;> rfl)
theorem restart_buffering (s : State) (b : List Frame)  : (s.buffering b).restart = (s.restart).buffering b := by
  unfold State.restart
  simp only [mayRestart_buffering, restarted_buffering, post_buffering]
  repeat' split
  all_goals first | rfl | (simp_all <;> rfl)
theorem laneOn_buffering (s : State) (b : List Frame) (l : Nat) : (s.buffering b).laneOn l = (s.laneOn l).buffering b := by
  unfold State.laneOn
  simp only [lane_buffering, modLane_buffering, buffering_now, refuse_buffering]
  repeat' split
  all_goals first | rfl | (simp_all <;> rfl)
theorem turnLaneOff_buffering (s : State) (b : List Frame) (i : LaneIdx) :
    (s.buffering b).turnLaneOff i = (s.turnLaneOff i).buffering b := by
  unfold State.turnLaneOff
  simp only [handOverWaiting_buffering, dropEarly_buffering, abandonItems_buffering, modLane_buffering]
theorem laneOff_buffering (s : State) (b : List Frame) (l : Nat) : (s.buffering b).laneOff l = (s.laneOff l).buffering b := by
  unfold State.laneOff
  simp only [lane_buffering, turnLaneOff_buffering, refuse_buffering]
  repeat' split
  all_goals first | rfl | (simp_all <;> rfl)
theorem laneSet_buffering (s : State) (b : List Frame) (l : Nat) (c : LaneConfigArgs) :
    (s.buffering b).laneSet l c = (s.laneSet l c).buffering b := by
  unfold State.laneSet
  simp only [lane_buffering, modLane_buffering, buffering_now, refuse_buffering]
  repeat' split
  all_goals first | rfl | (simp_all <;> rfl)
theorem laneGet_buffering (s : State) (b : List Frame) (l : Nat) (p : Bool) :
    (s.buffering b).laneGet l p = (s.laneGet l p).buffering b := by
  unfold State.laneGet
  simp only [lane_buffering, modLane_buffering, buffering_now, refuse_buffering]
  repeat' split
  all_goals first | rfl | (simp_all <;> rfl)
theorem laneJournal_buffering (s : State) (b : List Frame) (l f c : Nat) :
    (s.buffering b).laneJournal l f c = (s.laneJournal l f c).buffering b := by
  unfold State.laneJournal
  simp only [lane_buffering, modLane_buffering, refuse_buffering]
  repeat' split
  all_goals first | rfl | (simp_all <;> rfl)
theorem laneCounters_buffering (s : State) (b : List Frame) (l : Nat) :
    (s.buffering b).laneCounters l = (s.laneCounters l).buffering b := by
  unfold State.laneCounters
  simp only [lane_buffering, modLane_buffering, refuse_buffering]
  repeat' split
  all_goals first | rfl | (simp_all <;> rfl)

/-! ## SIGHT, RECORD and STATION requests -/

theorem sightHold_buffering (s : State) (b : List Frame) (p : Nat) : (s.buffering b).sightHold p = (s.sightHold p).buffering b := by
  unfold State.sightHold
  rw [answered_ite, refuse_buffering]
  exact congrArg (fun u : State => if within 600 86400 p then Answered.mk u .ok (.period p) else (refuse s .range).buffering b)
    (ageAll_buffering { s with holdPeriod := p } b)
theorem sightFind_buffering (s : State) (b : List Frame) (o n : Nat) : (s.buffering b).sightFind o n = (s.sightFind o n).buffering b := by
  unfold State.sightFind
  simp only [buffering_sightings, sightResult_buffering]
  repeat' split
  all_goals first | rfl | (simp_all <;> rfl)
theorem sightForget_buffering (s : State) (b : List Frame) (o n : Nat) :
    (s.buffering b).sightForget o n = (s.sightForget o n).buffering b := by
  unfold State.sightForget
  simp only [buffering_sightings, refuse_buffering]
  repeat' split
  all_goals first | rfl | (simp_all <;> rfl)
theorem recordCredit_buffering (s : State) (b : List Frame) (n : Nat) :
    (s.buffering b).recordCredit n = (s.recordCredit n).buffering b := by
  unfold State.recordCredit
  simp only [holder_buffering, creditMove_buffering, refuse_buffering]
  repeat' split
  all_goals first | rfl | (simp_all <;> rfl)
theorem recordClear_buffering (s : State) (b : List Frame) (x : ClearSel) :
    (s.buffering b).recordClear x = (s.recordClear x).buffering b := by
  unfold State.recordClear
  simp only [holder_buffering, removeRecord_buffering, refuse_buffering, buffering_store]
  repeat' split
  all_goals first | rfl | (simp_all <;> rfl)
theorem recordRefusal_buffering (s : State) (b : List Frame) (status : Status) :
    (s.buffering b).recordRefusal status = (s.recordRefusal status).buffering b := rfl
theorem recordGet_buffering (s : State) (b : List Frame) (x : RecordSel) : (s.buffering b).recordGet x = (s.recordGet x).buffering b := by
  unfold State.recordGet
  simp only [holder_buffering, recordAt_buffering, recordResult_buffering, recordRefusal_buffering]
  repeat' split
  all_goals first | rfl | (simp_all <;> rfl)
theorem stationOpen_buffering (s : State) (b : List Frame) (n : Nat) : (s.buffering b).stationOpen n = (s.stationOpen n).buffering b := by
  unfold State.stationOpen
  simp only [station_buffering, setStationState_buffering, stationChanged_buffering, refuse_buffering]
  repeat' split
  all_goals first | rfl | (simp_all <;> rfl)
theorem stationClose_buffering (s : State) (b : List Frame) (n : Nat) :
    (s.buffering b).stationClose n = (s.stationClose n).buffering b := by
  unfold State.stationClose
  simp only [station_buffering, setStationState_buffering, stationChanged_buffering, returnQueue_buffering, refuse_buffering]
  repeat' split
  all_goals first | rfl | (simp_all <;> rfl)
theorem stationLoad_buffering (s : State) (b : List Frame) (n : Nat) (c : Four CassetteArgs) (p q : Nat) (r : Bool) :
    (s.buffering b).stationLoad n c p q r = (s.stationLoad n c p q r).buffering b := by
  unfold State.stationLoad
  simp only [station_buffering, modStation_buffering, refuse_buffering]
  repeat' split
  all_goals first | rfl | (simp_all <;> rfl)
theorem afterLoad_buffering (s : State) (b : List Frame) (n : Nat) : (s.buffering b).afterLoad n = (s.afterLoad n).buffering b := by
  unfold State.afterLoad
  cases stationOf n with
  | none => rfl
  | some x => exact testLoaded_buffering s b x
theorem stationGet_buffering (s : State) (b : List Frame) (n : Nat) : (s.buffering b).stationGet n = (s.stationGet n).buffering b := by
  unfold State.stationGet
  simp only [stationView_buffering, refuse_buffering]
  repeat' split
  all_goals first | rfl | (simp_all <;> rfl)

/-! ## Table requests -/

theorem classPut_buffering (s : State) (b : List Frame) (n : Nat) (c : ClassArgs) :
    (s.buffering b).classPut n c = (s.classPut n c).buffering b := by
  unfold State.classPut
  simp only [examineClasses_buffering, setClasses_buffering, buffering_tables, refuse_buffering]
  repeat' split
  all_goals first | rfl | (simp_all <;> rfl)
theorem classRemove_buffering (s : State) (b : List Frame) (n : Nat) : (s.buffering b).classRemove n = (s.classRemove n).buffering b := by
  unfold State.classRemove
  simp only [setClasses_buffering, buffering_tables, refuse_buffering]
  repeat' split
  all_goals first | rfl | (simp_all <;> rfl)
theorem classGet_buffering (s : State) (b : List Frame) (n : Nat) : (s.buffering b).classGet n = (s.classGet n).buffering b := by
  unfold State.classGet
  simp only [examineClassAt_buffering, buffering_tables]
  repeat' split
  all_goals first | rfl | (simp_all <;> rfl)
theorem markPut_buffering (s : State) (b : List Frame) (o n m : Nat) : (s.buffering b).markPut o n m = (s.markPut o n m).buffering b := by
  unfold State.markPut
  simp only [examineMarks_buffering, markAt_buffering, setMarks_buffering, buffering_tables, refuse_buffering]
  repeat' split
  all_goals first | rfl | (simp_all <;> rfl)
theorem markRemove_buffering (s : State) (b : List Frame) (x : MarkSel) : (s.buffering b).markRemove x = (s.markRemove x).buffering b := by
  unfold State.markRemove
  simp only [examineMarks_buffering, markAt_buffering, setMarks_buffering, buffering_tables, refuse_buffering]
  repeat' split
  all_goals first | rfl | (simp_all <;> rfl)
theorem markGet_buffering (s : State) (b : List Frame) (x : MarkSel) : (s.buffering b).markGet x = (s.markGet x).buffering b := by
  unfold State.markGet
  simp only [examineMarks_buffering, examineMarkAt_buffering, markAt_buffering, buffering_tables]
  repeat' split
  all_goals first | rfl | (simp_all <;> rfl)
theorem poolPut_buffering (s : State) (b : List Frame) (n : Nat) (a : BitVec 64) (os : List Override) :
    (s.buffering b).poolPut n a os = (s.poolPut n a os).buffering b := by
  unfold State.poolPut
  simp only [setPools_buffering, buffering_tables, refuse_buffering]
  repeat' split
  all_goals first | rfl | (simp_all <;> rfl)
theorem poolRemove_buffering (s : State) (b : List Frame) (n : Nat) : (s.buffering b).poolRemove n = (s.poolRemove n).buffering b := by
  unfold State.poolRemove
  simp only [examineAccounts_buffering, poolNamed_buffering, setPools_buffering, buffering_tables, refuse_buffering]
  repeat' split
  all_goals first | rfl | (simp_all <;> rfl)
theorem poolGet_buffering (s : State) (b : List Frame) (n : Nat) : (s.buffering b).poolGet n = (s.poolGet n).buffering b := by
  unfold State.poolGet
  simp only [examinePoolAt_buffering, buffering_tables, refuse_buffering]
  repeat' split
  all_goals first | rfl | (simp_all <;> rfl)
theorem accountPut_buffering (s : State) (b : List Frame) (n : Nat) (a : AccountArgs) :
    (s.buffering b).accountPut n a = (s.accountPut n a).buffering b := by
  unfold State.accountPut
  simp only [examinePoolAt_buffering, poolAt_buffering, examineAccounts_buffering, accountOf_buffering, setAccounts_buffering, buffering_tables,
      refuse_buffering]
  repeat' split
  all_goals first | rfl | (simp_all <;> rfl)
theorem accountErase_buffering (s : State) (b : List Frame) (k n : Nat) :
    (s.buffering b).accountErase k n = (s.accountErase k n).buffering b := by
  unfold State.accountErase
  simp only [accountNamed_buffering, setAccounts_buffering, buffering_tables, refuse_buffering]
  repeat' split
  all_goals first | rfl | (simp_all <;> rfl)
theorem accountRemove_buffering (s : State) (b : List Frame) (x : AccountSel) :
    (s.buffering b).accountRemove x = (s.accountRemove x).buffering b := by
  unfold State.accountRemove
  simp only [examineAccounts_buffering, examineAccountAt_buffering, accountOf_buffering, accountErase_buffering, setAccounts_buffering,
      buffering_tables, refuse_buffering]
  repeat' split
  all_goals first | rfl | (simp_all <;> rfl)
theorem accountGet_buffering (s : State) (b : List Frame) (x : AccountSel) :
    (s.buffering b).accountGet x = (s.accountGet x).buffering b := by
  unfold State.accountGet
  simp only [examineAccounts_buffering, examineAccountAt_buffering, accountOf_buffering, buffering_tables]
  repeat' split
  all_goals first | rfl | (simp_all <;> rfl)

/-! ## DROP requests -/

theorem openDrop_buffering (s : State) (b : List Frame) (i : LaneIdx) (a : Nat) (d : List Byte) (ds : List Declaration) :
    (s.buffering b).openDrop i a d ds = (s.openDrop i a d ds).buffering b := by
  unfold State.openDrop
  simp only [handOverWaiting_buffering, nextDropNumber_buffering, buffering_checkPos]
  generalize s.handOverWaiting i = u
  have e : ({ u.buffering b with lastDrop := u.nextDropNumber, checkPos := nextCheckPos u.checkPos } : State).detachSightings u.nextDropNumber =
      (({ u with lastDrop := u.nextDropNumber, checkPos := nextCheckPos u.checkPos } : State).detachSightings u.nextDropNumber).buffering b := rfl
  rw [e]
  simp only [modLane_buffering, journalWrite_buffering, seqNext_buffering, buffering_clock]
  rfl
theorem dropOpen_buffering (s : State) (b : List Frame) (l a : Nat) (d : List Byte) (ds : List Declaration) :
    (s.buffering b).dropOpen l a d ds = (s.dropOpen l a d ds).buffering b := by
  unfold State.dropOpen
  simp only [lane_buffering, examineAccounts_buffering, accountOf_buffering, examinePoolAt_buffering, poolAt_buffering, openDrop_buffering,
      refuse_buffering]
  repeat' split
  all_goals first | rfl | (simp_all <;> rfl)
theorem dropClose_buffering (s : State) (b : List Frame) (n : Nat) : (s.buffering b).dropClose n = (s.dropClose n).buffering b := by
  unfold State.dropClose
  simp only [holder_buffering, modLane_buffering, buffering_now, refuse_buffering]
  repeat' split
  all_goals first | rfl | (simp_all <;> rfl)
theorem afterClose_buffering (s : State) (b : List Frame) (n : Nat) : (s.buffering b).afterClose n = (s.afterClose n).buffering b := by
  unfold State.afterClose
  rw [findLaneDrop_buffering]
  cases s.findLaneDrop n with
  | none => rfl
  | some p => exact quietTest_buffering s b p.1
theorem dropResolve_buffering (s : State) (b : List Frame) (n : Nat) (es : List ResolveArgs) :
    (s.buffering b).dropResolve n es = (s.dropResolve n es).buffering b := by
  unfold State.dropResolve
  simp only [holder_buffering, setRecord_buffering, refuse_buffering]
  repeat' split
  all_goals first | rfl | (simp_all <;> rfl)
theorem approved_buffering (s : State) (b : List Frame) (k : SlotIdx) (a : Nat) :
    (s.buffering b).approved k a = (s.approved k a).buffering b := rfl
theorem dropApprove_buffering (s : State) (b : List Frame) (n : Nat) (w : Bool) :
    (s.buffering b).dropApprove n w = (s.dropApprove n w).buffering b := by
  unfold State.dropApprove
  simp only [holder_buffering, setRecord_buffering, settle_buffering, approved_buffering, refuse_buffering]
  repeat' split
  all_goals first | rfl | (simp_all <;> rfl)
theorem abandonOnLane_buffering (s : State) (b : List Frame) (i : LaneIdx) (d : LaneDrop) :
    (s.buffering b).abandonOnLane i d = (s.abandonOnLane i d).buffering b := by
  have rest (u : State) : ({ u.buffering b with parkOrder := u.parkOrder.filter (fun j => decide (j ≠ i)) } : State) =
      ({ u with parkOrder := u.parkOrder.filter (fun j => decide (j ≠ i)) } : State).buffering b := rfl
  unfold State.abandonOnLane
  cases d.state <;> simp only [handOverWaiting_buffering, lane_buffering, buffering_parkOrder] <;> rw [rest] <;>
    simp only [modLane_buffering, journalWrite_buffering, sightingsOf_buffering, removeSightings_buffering, post_buffering]
theorem voidRecord_buffering (s : State) (b : List Frame) (k : SlotIdx) (r : SettleRec) :
    (s.buffering b).voidRecord k r = (s.voidRecord k r).buffering b := by
  unfold State.voidRecord
  simp only [becomeFinal_buffering, sightingsOf_buffering, removeSightings_buffering, post_buffering]
theorem dropAbandon_buffering (s : State) (b : List Frame) (n : Nat) : (s.buffering b).dropAbandon n = (s.dropAbandon n).buffering b := by
  unfold State.dropAbandon
  simp only [holder_buffering, abandonOnLane_buffering, voidRecord_buffering, refuse_buffering]
  repeat' split
  all_goals first | rfl | (simp_all <;> rfl)
theorem dropGet_buffering (s : State) (b : List Frame) (x : DropSel) (p : DropPart) :
    (s.buffering b).dropGet x p = (s.dropGet x p).buffering b := by
  unfold State.dropGet
  simp only [holder_buffering, lane_buffering, laneDropView_buffering, recordView_buffering, refuse_buffering]
  repeat' split
  all_goals first | rfl | (simp_all <;> rfl)

/-! ## A command read from a frame -/

/-- Every command that may be read has a frame. -/
def Carried (x : Option Instr) : Prop := ∀ c, x = some c → ∃ f, encodeRequest c = some f

theorem carried_ite {p : Prop} [Decidable p] {x y : Option Instr} (hx : Carried x) (hy : ¬ p → Carried y) : Carried (if p then x else y) := by
  split
  · exact hx
  · next h => exact hy h

theorem carried_bind {α : Type} {x : Option α} {f : α → Option Instr} (h : ∀ a, Carried (f a)) : Carried (x >>= f) := by
  cases x with
  | none => intro _ e; cases e
  | some a => exact h a

theorem carried_whole {c : Instr} {rest : List Byte} (h : ∃ f, encodeRequest c = some f) : Carried (whole c rest) := by
  intro d e
  unfold whole at e
  split at e
  · cases e; exact h
  · cases e

theorem carried_oneNumber {n : Nat} {make : Nat → Instr} {body : List Byte} (h : ∀ k, ∃ f, encodeRequest (make k) = some f) :
    Carried (oneNumber n make body) := carried_bind (fun p => carried_whole (h p.1))

theorem carried_ownerSerial {make : Nat → Nat → Instr} {body : List Byte} (h : ∀ o n, ∃ f, encodeRequest (make o n) = some f) :
    Carried (ownerSerial make body) := carried_bind (fun p => carried_bind (fun q => carried_whole (h p.1 q.1)))

/-- A command read from a frame has a frame. -/
theorem parseRequest_carried {g : Frame} : Carried (parseRequest g) := by
  unfold parseRequest
  dsimp only
  repeat' with_reducible refine carried_ite ?_ (fun _ => ?_)
  all_goals first
    | exact carried_whole ⟨_, rfl⟩
    | exact carried_oneNumber (fun _ => ⟨_, rfl⟩)
    | exact carried_ownerSerial (fun _ _ => ⟨_, rfl⟩)
    | (repeat refine carried_bind (fun _ => ?_)); exact carried_whole ⟨_, rfl⟩
    | rintro _ ⟨⟩; exact ⟨⟨g.kind, g.tag, []⟩, if_neg (by simp_all [requestKinds])⟩

/-! ## Requests that wait (R176) -/

/-- A request that arrives while a reply is out, or behind others, joins the buffer, or is discarded as OVERRUN. -/
theorem request_behind {c : Instr} {f : Frame} {s : State} (act : State → Answered) (after : State → State)
    (hf : encodeRequest c = some f) (hr : s.rstHeld = false)
    (h : s.replyOut = true ∨ ∃ g rest, s.host.reqBuf = g :: rest ∧ parseRequest g ≠ some c) :
    request c act after s = .next (finish (s.bufferRequest f)) := by
  unfold request
  simp only [hr, hf, Bool.false_eq_true, if_false]
  split
  · rfl
  · next ho =>
    rcases h with h | ⟨g, rest, e, n⟩
    · exact absurd h ho
    · rw [e]; simp only [n, if_false]

/-- The request at the head of the buffer is taken from it: with `rest` waiting behind it. -/
theorem request_head {c : Instr} {f g : Frame} {rest : List Frame} {s : State} (act : State → Answered) (after : State → State)
    (hf : encodeRequest c = some f) (hr : s.rstHeld = false) (ho : s.replyOut = false) (hb : s.host.reqBuf = g :: rest)
    (hg : parseRequest g = some c) : request c act after s = .next (finish (takeRequest f act after (s.buffering rest))) := by
  simp [request, hr, hf, ho, hb, hg, State.buffering]

theorem takeRequest_buffering {f : Frame} {act : State → Answered} {after : State → State}
    (ha : ∀ s b, act (s.buffering b) = (act s).buffering b) (hn : ∀ (s : State) b, after (s.buffering b) = (after s).buffering b)
    (s : State) (b : List Frame) : takeRequest f act after (s.buffering b) = (takeRequest f act after s).buffering b := by
  have reply : ∀ a : Answered, (a.buffering b).reply f = (a.reply f).buffering b := fun _ => rfl
  unfold takeRequest
  dsimp only
  rw [ha, reply, hn, buffering_ite]
  rfl

/-- Such a request does what it does on an empty buffer, and leaves the rest waiting, when neither what it does nor what follows its reply looks
at the buffer. -/
theorem request_leaves {c : Instr} {g : Frame} {rest : List Frame} {s : State} {act : State → Answered} {after : State → State}
    (ha : ∀ s b, act (s.buffering b) = (act s).buffering b) (hn : ∀ (s : State) b, after (s.buffering b) = (after s).buffering b)
    (hr : s.rstHeld = false) (ho : s.replyOut = false) (hb : s.host.reqBuf = g :: rest) (hg : parseRequest g = some c) :
    ∃ t, request c act after (s.buffering []) = .next t ∧ t.host.reqBuf = [] ∧ request c act after s = .next (t.buffering rest) := by
  obtain ⟨f, hf⟩ := parseRequest_carried _ hg
  refine ⟨_, request_ready act after ⟨hr, ho, rfl⟩ hf, ?_, ?_⟩
  · rw [takeRequest_buffering ha hn, finish_buffering]; rfl
  · rw [request_head act after hf hr ho hb hg, takeRequest_buffering ha hn, takeRequest_buffering ha hn, finish_buffering, finish_buffering]; rfl

end Sys2Proof.Machine
end

