-- ==== Sys2Proof/Laws/ItemPath.lean ====
section
/-! SUPPORT. What handing an item on along the item path (R29 to R32, R44, R76 to R97) leaves as it is: every other lane, the store, the
stations, and of the item's lane all but accumulation, the read window, the reject list, the journal, the drop's record and five counters. -/

namespace Sys2Proof.Machine

/-- What the item path of lane `i` leaves as it is. -/
structure ItemPath (i : LaneIdx) (s t : State) : Prop where
  others : ∀ j, i ≠ j → t.lane j = s.lane j
  store : t.store = s.store
  finalOrder : t.finalOrder = s.finalOrder
  parkOrder : t.parkOrder = s.parkOrder
  stationA : t.stationA = s.stationA
  stationB : t.stationB = s.stationB
  inService : (t.lane i).inService = (s.lane i).inService
  cfg : (t.lane i).cfg = (s.lane i).cfg
  beamA : (t.lane i).beamA = (s.lane i).beamA
  beamB : (t.lane i).beamB = (s.lane i).beamB
  takeoff : (t.lane i).takeoff = (s.lane i).takeoff
  reject : (t.lane i).reject = (s.lane i).reject
  gate : (t.lane i).gate = (s.lane i).gate
  stuckA : (t.lane i).stuckA = (s.lane i).stuckA
  stuckB : (t.lane i).stuckB = (s.lane i).stuckB
  lastABlock : (t.lane i).lastABlock = (s.lane i).lastABlock
  head : (t.lane i).head = (s.lane i).head
  lastFault : (t.lane i).lastFault = (s.lane i).lastFault
  measure : (t.lane i).measure = (s.lane i).measure
  early : (t.lane i).early = (s.lane i).early
  grace : (t.lane i).grace = (s.lane i).grace
  waiting : (t.lane i).waiting = (s.lane i).waiting
  headRx : (t.lane i).headRx = (s.lane i).headRx
  pacing : (t.lane i).pacing = (s.lane i).pacing
  forward : (t.lane i).counters.forward = (s.lane i).counters.forward
  reverse : (t.lane i).counters.reverse = (s.lane i).counters.reverse
  bounces : (t.lane i).counters.bounces = (s.lane i).counters.bounces
  glitches : (t.lane i).counters.glitches = (s.lane i).counters.glitches
  longItems : (t.lane i).counters.longItems = (s.lane i).counters.longItems
  abandoned : (t.lane i).counters.abandoned = (s.lane i).counters.abandoned
  strayReads : (t.lane i).counters.strayReads = (s.lane i).counters.strayReads
  rejectsApplied : (t.lane i).counters.rejectsApplied = (s.lane i).counters.rejectsApplied
  lateRejects : (t.lane i).counters.lateRejects = (s.lane i).counters.lateRejects
  phantoms : (t.lane i).counters.phantoms = (s.lane i).counters.phantoms
  dropState : (t.lane i).drop.map LaneDrop.state = (s.lane i).drop.map LaneDrop.state

theorem ItemPath.refl (i : LaneIdx) (s : State) : ItemPath i s s := by constructor <;> intros <;> rfl

theorem ItemPath.trans {i : LaneIdx} {s t u : State} (h : ItemPath i s t) (k : ItemPath i t u) : ItemPath i s u where
  others j e := (k.others j e).trans (h.others j e)
  store := k.store.trans h.store
  finalOrder := k.finalOrder.trans h.finalOrder
  parkOrder := k.parkOrder.trans h.parkOrder
  stationA := k.stationA.trans h.stationA
  stationB := k.stationB.trans h.stationB
  inService := k.inService.trans h.inService
  cfg := k.cfg.trans h.cfg
  beamA := k.beamA.trans h.beamA
  beamB := k.beamB.trans h.beamB
  takeoff := k.takeoff.trans h.takeoff
  reject := k.reject.trans h.reject
  gate := k.gate.trans h.gate
  stuckA := k.stuckA.trans h.stuckA
  stuckB := k.stuckB.trans h.stuckB
  lastABlock := k.lastABlock.trans h.lastABlock
  head := k.head.trans h.head
  lastFault := k.lastFault.trans h.lastFault
  measure := k.measure.trans h.measure
  early := k.early.trans h.early
  grace := k.grace.trans h.grace
  waiting := k.waiting.trans h.waiting
  headRx := k.headRx.trans h.headRx
  pacing := k.pacing.trans h.pacing
  forward := k.forward.trans h.forward
  reverse := k.reverse.trans h.reverse
  bounces := k.bounces.trans h.bounces
  glitches := k.glitches.trans h.glitches
  longItems := k.longItems.trans h.longItems
  abandoned := k.abandoned.trans h.abandoned
  strayReads := k.strayReads.trans h.strayReads
  rejectsApplied := k.rejectsApplied.trans h.rejectsApplied
  lateRejects := k.lateRejects.trans h.lateRejects
  phantoms := k.phantoms.trans h.phantoms
  dropState := k.dropState.trans h.dropState

/-- What does not touch a lane, the store or a station is no part of the item path's business. -/
theorem ItemPath.of_same {i : LaneIdx} {s t : State} (lanes : t.lanes = s.lanes) (store : t.store = s.store)
    (finalOrder : t.finalOrder = s.finalOrder) (parkOrder : t.parkOrder = s.parkOrder) (stationA : t.stationA = s.stationA)
    (stationB : t.stationB = s.stationB) : ItemPath i s t := by
  have e : ∀ j, t.lane j = s.lane j := fun j => by simp [lane_eq, lanes]
  constructor
  · intro j _; exact e j
  all_goals first
    | assumption
    | rw [e i]

theorem itemPath_post (i : LaneIdx) (s : State) (b : NoticeBody) : ItemPath i s (s.post b) := by
  apply ItemPath.of_same <;> simp

/-- A change of the lane itself that keeps all those fields. -/
theorem itemPath_modLane (i : LaneIdx) (s : State) (f : Lane → Lane)
    (h : ∀ l, ∃ occupancy peak latch window degraded rejects journal counters drop,
      f l = { l with occupancy := occupancy, peak := peak, latch := latch, window := window, degraded := degraded, rejects := rejects,
                     journal := journal, counters := counters, drop := drop } ∧
      counters.forward = l.counters.forward ∧ counters.reverse = l.counters.reverse ∧ counters.bounces = l.counters.bounces ∧
      counters.glitches = l.counters.glitches ∧ counters.longItems = l.counters.longItems ∧
      counters.abandoned = l.counters.abandoned ∧ counters.strayReads = l.counters.strayReads ∧
      counters.rejectsApplied = l.counters.rejectsApplied ∧ counters.lateRejects = l.counters.lateRejects ∧
      counters.phantoms = l.counters.phantoms ∧ drop.map LaneDrop.state = l.drop.map LaneDrop.state) :
    ItemPath i s (s.modLane i f) := by
  obtain ⟨o, p, la, w, d, r, j, c, dr, e, h1, h2, h3, h4, h5, h6, h7, h8, h9, h10, h11⟩ := h (s.lane i)
  constructor
  · intro k hk; exact lane_modLane_ne _ _ hk
  all_goals first
    | rfl
    | (rw [lane_modLane_same, e]; assumption)
    | rw [lane_modLane_same, e]

theorem itemPath_postAll (i : LaneIdx) (s : State) (bs : List NoticeBody) : ItemPath i s (s.postAll bs) := by
  apply ItemPath.of_same <;> simp

theorem itemPath_journalWrite (i : LaneIdx) (s : State) (b : JournalBody) : ItemPath i s (s.journalWrite i b) :=
  (itemPath_modLane i s (fun l => { l with journal := ((s.lane i).journal.write i s.stamp b).1 })
    (fun _ => ⟨_, _, _, _, _, _, _, _, _, rfl, rfl, rfl, rfl, rfl, rfl, rfl, rfl, rfl, rfl, rfl, rfl⟩)).trans (itemPath_postAll i _ _)

/-- The counters the item path raises. -/
def LaneCtr.onPath : LaneCtr → Bool
  | .paired => true
  | .unread => true
  | .multiCode => true
  | .strayItems => true
  | .overflows => true
  | _ => false

theorem itemPath_count (i : LaneIdx) (s : State) (c : LaneCtr) (h : c.onPath = true) : ItemPath i s (s.count i c) := by
  refine itemPath_modLane i s _ (fun l => ?_)
  cases c <;> first
    | exact ⟨_, _, _, _, _, _, _, _, _, rfl, rfl, rfl, rfl, rfl, rfl, rfl, rfl, rfl, rfl, rfl, rfl⟩
    | cases h

theorem itemPath_accumulate (i : LaneIdx) (s : State) : ItemPath i s (s.accumulate i) := by
  have latch : ∀ t : State, ItemPath i t (t.modLane i (fun l => { l with latch := true })) := fun t =>
    itemPath_modLane i t _ (fun _ => ⟨_, _, _, _, _, _, _, _, _, rfl, rfl, rfl, rfl, rfl, rfl, rfl, rfl, rfl, rfl, rfl, rfl⟩)
  unfold State.accumulate
  dsimp only
  split
  · exact itemPath_modLane i s _ (fun _ => ⟨_, _, _, _, _, _, _, _, _, rfl, rfl, rfl, rfl, rfl, rfl, rfl, rfl, rfl, rfl, rfl, rfl⟩)
  · split
    · exact (itemPath_count i s _ rfl).trans (latch _)
    · exact ((itemPath_count i s _ rfl).trans (latch _)).trans (itemPath_post i _ _)

theorem itemPath_joinWindow (i : LaneIdx) (s : State) (bad : Bool) : ItemPath i s (s.joinWindow i bad) := by
  have h1 : ItemPath i s (s.modLane i (fun l => { l with window := Sys2Proof.Machine.joinWindow l.cfg.readWindow l.window bad })) :=
    itemPath_modLane i s _ (fun _ => ⟨_, _, _, _, _, _, _, _, _, rfl, rfl, rfl, rfl, rfl, rfl, rfl, rfl, rfl, rfl, rfl, rfl⟩)
  have set : ∀ (t : State) (v : Bool), ItemPath i t (t.modLane i (fun l => { l with degraded := v })) := fun t v =>
    itemPath_modLane i t _ (fun _ => ⟨_, _, _, _, _, _, _, _, _, rfl, rfl, rfl, rfl, rfl, rfl, rfl, rfl, rfl, rfl, rfl, rfl⟩)
  unfold State.joinWindow
  dsimp only
  split
  · exact ((h1.trans (set _ _)).trans (itemPath_journalWrite i _ _)).trans (itemPath_post i _ _)
  · split
    · exact ((h1.trans (set _ _)).trans (itemPath_journalWrite i _ _)).trans (itemPath_post i _ _)
    · exact h1

theorem itemPath_countYard (i : LaneIdx) (s : State) (c : YardCtr) : ItemPath i s (s.countYard c) :=
  .of_same rfl rfl rfl rfl rfl rfl

theorem itemPath_tableFaults (i : LaneIdx) (s : State) (t : TableName) (ks : List Nat) : ItemPath i s (s.tableFaults t ks) := by
  unfold State.tableFaults
  induction ks generalizing s with
  | nil => exact .refl i s
  | cons k ks ih =>
    exact ((itemPath_post i s (.tableFault t k)).trans (itemPath_countYard i _ .tableFaults)).trans (ih _)

theorem itemPath_tables (i : LaneIdx) (s : State) (t : Tables) : ItemPath i s { s with tables := t } :=
  .of_same rfl rfl rfl rfl rfl rfl

theorem itemPath_sightings (i : LaneIdx) (s : State) (l : List Sighting) : ItemPath i s { s with sightings := l } :=
  .of_same rfl rfl rfl rfl rfl rfl

theorem itemPath_examineClasses (i : LaneIdx) (s : State) : ItemPath i s s.examineClasses :=
  (itemPath_tables i s _).trans (itemPath_tableFaults i _ _ _)
theorem itemPath_examineMarks (i : LaneIdx) (s : State) : ItemPath i s s.examineMarks :=
  (itemPath_tables i s _).trans (itemPath_tableFaults i _ _ _)
theorem itemPath_examineAccounts (i : LaneIdx) (s : State) : ItemPath i s s.examineAccounts :=
  (itemPath_tables i s _).trans (itemPath_tableFaults i _ _ _)
theorem itemPath_examinePoolAt (i : LaneIdx) (s : State) (k : Nat) : ItemPath i s (s.examinePoolAt k) :=
  (itemPath_tables i s _).trans (itemPath_tableFaults i _ _ _)

theorem itemPath_judgeKeg (i : LaneIdx) (s : State) (drop : Nat) (code : Code) (weight cls tare ullage full charge base : Nat)
    (alerts : List AlertReason) : ItemPath i s (s.judgeKeg i drop code weight cls tare ullage full charge base alerts).1 := by
  unfold State.judgeKeg
  split
  · exact itemPath_sightings i s _
  · unfold State.learn
    dsimp only
    split
    · exact itemPath_sightings i s _
    · exact .of_same rfl rfl rfl rfl rfl rfl

theorem itemPath_ladderKeg (i : LaneIdx) (s : State) (drop : Nat) (code : Code) (weight units cls tare ullage full charge base : Nat) :
    ItemPath i s (s.ladderKeg i drop code weight units cls tare ullage full charge base).1 := by
  unfold State.ladderKeg
  dsimp only
  split
  · exact .refl i s
  · split
    · exact itemPath_examineMarks i s
    · exact (itemPath_examineMarks i s).trans (itemPath_judgeKeg i _ _ _ _ _ _ _ _ _ _ _)

theorem itemPath_dropPool (i : LaneIdx) (s : State) (account : Nat) : ItemPath i s (s.dropPool account).1 := by
  unfold State.dropPool
  dsimp only
  split
  · exact itemPath_examineAccounts i s
  · exact (itemPath_examineAccounts i s).trans (itemPath_examinePoolAt i _ _)

theorem itemPath_ladderPool (i : LaneIdx) (s : State) (d : DropRec) (code : Code) (m : Measurement) (units cls : Nat) (e : ClassEntry) :
    ItemPath i s (s.ladderPool i d code m units cls e).1 := by
  have hp := itemPath_dropPool i s d.account
  unfold State.ladderPool
  split
  · next h => rw [h] at hp; exact hp
  · next h =>
    rw [h] at hp
    split
    · dsimp only
      split
      · split <;> exact hp
      · exact hp.trans (itemPath_ladderKeg i _ _ _ _ _ _ _ _ _ _ _)
    · exact hp

theorem itemPath_ladder (i : LaneIdx) (s : State) (d : DropRec) (c : Capture) : ItemPath i s (s.ladder i d c).1 := by
  unfold State.ladder
  dsimp only
  split
  · exact .refl i s
  · exact .refl i s
  · exact .refl i s
  · split
    · exact itemPath_examineClasses i s
    · split
      · exact (itemPath_examineClasses i s).trans (itemPath_ladderPool i _ _ _ _ _ _ _)
      · exact itemPath_examineClasses i s

theorem itemPath_listAndAlert (i : LaneIdx) (s : State) (drop seq : Nat) (it : Item) (v : Verdict) (o : ItemOutcome) :
    ItemPath i s (s.listAndAlert i drop seq it v o) := by
  have h1 : ItemPath i s (match o.paying with
    | some d => s.joinRejects i ⟨seq, it.completed, v.cls.getD 0, d, v.value.getD 0, v.units⟩
    | none => s) := by
    split
    · exact itemPath_modLane i s _ (fun _ => ⟨_, _, _, _, _, _, _, _, _, rfl, rfl, rfl, rfl, rfl, rfl, rfl, rfl, rfl, rfl, rfl, rfl⟩)
    · exact .refl i s
  unfold State.listAndAlert
  dsimp only
  split
  · exact h1
  · exact h1.trans (itemPath_post i _ _)
  · exact h1

theorem itemPath_applyVerdict (i : LaneIdx) (s : State) (d : DropRec) (it : Item) (v : Verdict) :
    ItemPath i s (s.applyVerdict i d it v) := by
  have h1 : ItemPath i s (s.modLane i (fun l => l.modDrop (fun d' => d'.place v (placedOutcome d.lines v) it.long))) :=
    itemPath_modLane i s _ (fun l => ⟨_, _, _, _, _, _, _, _, _, rfl, rfl, rfl, rfl, rfl, rfl, rfl, rfl, rfl, rfl, rfl, by
      cases l.drop <;> rfl⟩)
  exact ((h1.trans (itemPath_journalWrite i _ _)).trans (itemPath_joinWindow i _ _)).trans (itemPath_listAndAlert i _ _ _ _ _ _)

theorem itemPath_classify (i : LaneIdx) (s : State) (d : DropRec) (it : Item) : ItemPath i s (s.classify i d it) :=
  (itemPath_ladder i s d it.capture).trans (itemPath_applyVerdict i _ _ _ _)

theorem itemPath_stray (i : LaneIdx) (s : State) (it : Item) : ItemPath i s (s.stray i it) :=
  ((itemPath_journalWrite i s _).trans (itemPath_count i _ _ rfl)).trans (itemPath_post i _ _)

/-- Handing an item on (R29 to R32). -/
theorem itemPath_handOver (i : LaneIdx) (s : State) (it : FwdItem) (completed : Nat) : ItemPath i s (s.handOver i it completed) := by
  have h1 : ∀ c : CaptureCause, ItemPath i s ((s.count i c.counter).accumulate i) := fun c =>
    (itemPath_count i s _ (by cases c <;> rfl)).trans (itemPath_accumulate i _)
  unfold State.handOver
  dsimp only
  split
  · exact (h1 _).trans (itemPath_classify i _ _ _)
  · exact (h1 _).trans (itemPath_stray i _ _)

end Sys2Proof.Machine
end

