-- ==== Sys2Proof/Laws/DrainPath.lean ====
section
/-! SUPPORT. What settling, entering the store and the end of a drain (R106 to R111, R127 to R129) leave of every lane: all but the reject
list, the drop and the journal; and which of them touch no lane at all. -/

namespace Sys2Proof.Machine

/-- Every lane is as it was but for its reject list, its drop and its journal. -/
def DrainPath (s t : State) : Prop :=
  ∀ j, ∃ rejects drop journal, t.lane j = { s.lane j with rejects := rejects, drop := drop, journal := journal }

theorem DrainPath.refl (s : State) : DrainPath s s := fun j => ⟨(s.lane j).rejects, (s.lane j).drop, (s.lane j).journal, rfl⟩

theorem DrainPath.trans {s t u : State} (h : DrainPath s t) (k : DrainPath t u) : DrainPath s u := by
  intro j
  obtain ⟨a, b, c, e⟩ := h j
  obtain ⟨a', b', c', e'⟩ := k j
  exact ⟨a', b', c', by rw [e', e]⟩

theorem DrainPath.of_lanes {s t : State} (h : t.lanes = s.lanes) : DrainPath s t := by
  intro j
  exact ⟨(s.lane j).rejects, (s.lane j).drop, (s.lane j).journal, by simp [lane_eq, h]⟩

theorem drainPath_modLane (s : State) (i : LaneIdx) (f : Lane → Lane)
    (h : ∀ l, ∃ rejects drop journal, f l = { l with rejects := rejects, drop := drop, journal := journal }) :
    DrainPath s (s.modLane i f) := by
  intro j
  by_cases e : i = j
  · subst e; rw [lane_modLane_same]; exact h _
  · rw [lane_modLane_ne _ _ e]; exact DrainPath.refl s j

theorem drainPath_journalWrite (s : State) (i : LaneIdx) (b : JournalBody) : DrainPath s (s.journalWrite i b) :=
  (drainPath_modLane s i (fun l => { l with journal := ((s.lane i).journal.write i s.stamp b).1 }) (fun _ => ⟨_, _, _, rfl⟩)).trans
    (.of_lanes (postAll_lanes _ _))

/-! ## Operations that touch no lane -/

@[simp] theorem tableFaults_lanes (s : State) (t : TableName) (ks : List Nat) : (s.tableFaults t ks).lanes = s.lanes := by
  unfold State.tableFaults
  induction ks generalizing s with
  | nil => rfl
  | cons k ks ih => rw [List.foldl_cons, ih]; simp

@[simp] theorem examineAccounts_lanes (s : State) : s.examineAccounts.lanes = s.lanes := tableFaults_lanes _ _ _

@[simp] theorem tableFaults_store (s : State) (t : TableName) (ks : List Nat) : (s.tableFaults t ks).store = s.store := by
  unfold State.tableFaults
  induction ks generalizing s with
  | nil => rfl
  | cons k ks ih => rw [List.foldl_cons, ih]; simp

@[simp] theorem examineAccounts_store (s : State) : s.examineAccounts.store = s.store := tableFaults_store _ _ _

@[simp] theorem tableFaults_finalOrder (s : State) (t : TableName) (ks : List Nat) : (s.tableFaults t ks).finalOrder = s.finalOrder := by
  unfold State.tableFaults
  induction ks generalizing s with
  | nil => rfl
  | cons k ks ih => rw [List.foldl_cons, ih]; simp

@[simp] theorem examineAccounts_finalOrder (s : State) : s.examineAccounts.finalOrder = s.finalOrder := tableFaults_finalOrder _ _ _

@[simp] theorem tableFaults_station (s : State) (t : TableName) (ks : List Nat) (x : StationId) :
    (s.tableFaults t ks).station x = s.station x := by
  unfold State.tableFaults
  induction ks generalizing s with
  | nil => rfl
  | cons k ks ih => rw [List.foldl_cons, ih]; cases x <;> simp [State.station]

@[simp] theorem examineAccounts_station (s : State) (x : StationId) : s.examineAccounts.station x = s.station x := by
  unfold State.examineAccounts
  rw [tableFaults_station]
  cases x <;> rfl

@[simp] theorem creditMove_lanes (s : State) (k : SlotIdx) (r : SettleRec) (sum : Nat) (reason : CreditReason) :
    (s.creditMove k r sum reason).lanes = s.lanes := by
  unfold State.creditMove
  dsimp only
  split
  · rw [post_lanes]; rfl
  · rw [post_lanes]; rfl

@[simp] theorem awaitClaim_lanes (s : State) (k : SlotIdx) (r : SettleRec) : (s.awaitClaim k r).lanes = s.lanes := rfl

@[simp] theorem settle_lanes (s : State) (k : SlotIdx) (r : SettleRec) : (s.settle k r).lanes = s.lanes := by
  unfold State.settle
  dsimp only
  split <;> split <;> simp

@[simp] theorem evaluate_lanes (s : State) (k : SlotIdx) (d : DropRec) : (s.evaluate k d).lanes = s.lanes := by
  unfold State.evaluate
  dsimp only
  split <;> simp

/-! ## The end of a drain -/

theorem grantSlot_lanes {s t : State} {k : SlotIdx} (h : s.grantSlot = some (k, t)) : t.lanes = s.lanes := by
  unfold State.grantSlot at h
  split at h
  · rw [Option.some.injEq, Prod.mk.injEq] at h
    rw [← h.2]
  · split at h
    · cases h
    · split at h
      · cases h
      · rw [Option.some.injEq, Prod.mk.injEq] at h
        rw [← h.2, post_lanes]
        rfl

theorem drainPath_enterStore {s t : State} {i : LaneIdx} {d : DropRec} (h : s.enterStore i d = some t) : DrainPath s t := by
  unfold State.enterStore at h
  split at h
  · cases h
  · next hg =>
    rw [Option.some.injEq] at h
    rw [← h]
    exact ((DrainPath.of_lanes (grantSlot_lanes hg)).trans (drainPath_modLane _ i (fun l => { l with drop := none })
      (fun _ => ⟨_, _, _, rfl⟩))).trans (.of_lanes (evaluate_lanes _ _ _))

theorem drainPath_enterParkedN (n : Nat) (s : State) : DrainPath s (s.enterParkedN n) := by
  induction n generalizing s with
  | zero => exact .refl s
  | succ n ih =>
    unfold State.enterParkedN
    split
    · exact .refl s
    · split
      · exact .refl s
      · split
        · exact .refl s
        · next h =>
          have h0 : DrainPath s _ := fun j => drainPath_enterStore h j
          exact h0.trans (ih _)

theorem drainPath_enterParked (s : State) : DrainPath s s.enterParked := drainPath_enterParkedN _ s

/-- With no drop parked there is nothing to enter (R111). -/
@[simp] theorem enterParked_nil {s : State} (h : s.parkOrder = []) : s.enterParked = s := by
  unfold State.enterParked
  rw [h]
  rfl

theorem drainPath_park (s : State) (i : LaneIdx) (d : DropRec) : DrainPath s (s.park i d) := by
  unfold State.park
  refine (drainPath_modLane s i (fun l => { l with drop := some ⟨d, .parked⟩ }) (fun _ => ⟨_, _, _, rfl⟩)).trans (.of_lanes ?_)
  rw [post_lanes]

theorem drainPath_leaveLane (s : State) (i : LaneIdx) (d : DropRec) : DrainPath s (s.leaveLane i d) := by
  unfold State.leaveLane
  split
  · exact drainPath_park s i d
  · split
    · next h => exact drainPath_enterStore h
    · exact drainPath_park s i d

/-- The end of a drain (R108). -/
theorem drainPath_drainEnd (s : State) (i : LaneIdx) (how : DropEnd) : DrainPath s (s.drainEnd i how) := by
  unfold State.drainEnd
  split
  · exact .refl s
  · next d _ =>
    exact (((drainPath_modLane s i (fun l =>
      { l with rejects := [], drop := some ⟨d.record.drained s.host.clock (s.seqNext i) (s.lane i).cfg.binding, d.state⟩ })
      (fun _ => ⟨_, _, _, rfl⟩)).trans (drainPath_journalWrite _ i _)).trans (drainPath_leaveLane _ i _)).trans (drainPath_enterParked _)

theorem drainPath_quietTest (s : State) (i : LaneIdx) : DrainPath s (s.quietTest i) := by
  unfold State.quietTest
  split
  · exact drainPath_drainEnd s i _
  · exact .refl s

end Sys2Proof.Machine
end

