-- ==== Sys2Proof/Laws/PerInstr.lean ====
section
/-! SUPPORT. A statement made for every command: the frame that carries a request has a kind of Table 10-3, or is read back as
UNKNOWN_REQUEST; a row that is no request has no frame. -/

namespace Sys2Proof.Laws.RequestKind

/-- The frame of a request has a kind of Table 10-3, or reads back as the command itself (UNKNOWN_REQUEST, R176). -/
def Statement (c : Instr) : Prop := ∀ f, encodeRequest c = some f → requestKinds.contains f.kind = true ∨ parseRequest f = some c

theorem powerOnReset : Statement (.powerOnReset) := fun _ h => nomatch h
theorem rstAssert : Statement (.rstAssert) := fun _ h => nomatch h
theorem beamLineChange (lane : LaneIdx) (beam : Beam) (high : Bool) : Statement (.beamLineChange lane beam high) := fun _ h => nomatch h
theorem beamEdge (lane : LaneIdx) (beam : Beam) : Statement (.beamEdge lane beam) := fun _ h => nomatch h
theorem longLimit (lane : LaneIdx) : Statement (.longLimit lane) := fun _ h => nomatch h
theorem stuckLimit (lane : LaneIdx) (beam : Beam) : Statement (.stuckLimit lane beam) := fun _ h => nomatch h
theorem faultClear (lane : LaneIdx) : Statement (.faultClear lane) := fun _ h => nomatch h
theorem headFrameDiscard (lane : LaneIdx) (frame : Frame) (check : Check) : Statement (.headFrameDiscard lane frame check) := fun _ h => nomatch h
theorem headByteTimeout (lane : LaneIdx) : Statement (.headByteTimeout lane) := fun _ h => nomatch h
theorem codeFrame (lane : LaneIdx) (owner : Nat) (kind : Nat) (serial : Nat) : Statement (.codeFrame lane owner kind serial) := fun _ h => nomatch h
theorem measureFrame (lane : LaneIdx) (form : Nat) (value : Nat) : Statement (.measureFrame lane form value) := fun _ h => nomatch h
theorem statusFrame (lane : LaneIdx) (condition : Nat) : Statement (.statusFrame lane condition) := fun _ h => nomatch h
theorem headSilence (lane : LaneIdx) : Statement (.headSilence lane) := fun _ h => nomatch h
theorem earlyHoldExpiry (lane : LaneIdx) : Statement (.earlyHoldExpiry lane) := fun _ h => nomatch h
theorem lateGraceExpiry (lane : LaneIdx) : Statement (.lateGraceExpiry lane) := fun _ h => nomatch h
theorem takeoffLineChange (lane : LaneIdx) (high : Bool) : Statement (.takeoffLineChange lane high) := fun _ h => nomatch h
theorem takeoffPulse (lane : LaneIdx) : Statement (.takeoffPulse lane) := fun _ h => nomatch h
theorem rejectLineChange (lane : LaneIdx) (high : Bool) : Statement (.rejectLineChange lane high) := fun _ h => nomatch h
theorem rejectPress (lane : LaneIdx) : Statement (.rejectPress lane) := fun _ h => nomatch h
theorem rejectWindowExpiry (lane : LaneIdx) : Statement (.rejectWindowExpiry lane) := fun _ h => nomatch h
theorem sightingAged : Statement (.sightingAged) := fun _ h => nomatch h
theorem drainQuietPoint (lane : LaneIdx) : Statement (.drainQuietPoint lane) := fun _ h => nomatch h
theorem drainLimit (lane : LaneIdx) : Statement (.drainLimit lane) := fun _ h => nomatch h
theorem claimDeadlineExpiry (slot : SlotIdx) : Statement (.claimDeadlineExpiry slot) := fun _ h => nomatch h
theorem stationFrameDiscard (station : StationId) (frame : Frame) (check : Check) : Statement (.stationFrameDiscard station frame check) := fun _ h => nomatch h
theorem stationByteTimeout (station : StationId) : Statement (.stationByteTimeout station) := fun _ h => nomatch h
theorem ready (station : StationId) : Statement (.ready station) := fun _ h => nomatch h
theorem stationLinkSilence (station : StationId) : Statement (.stationLinkSilence station) := fun _ h => nomatch h
theorem claim (station : StationId) (number : Nat) (code : Nat) : Statement (.claim station number code) := fun _ h => nomatch h
theorem picked (station : StationId) (n1 : Nat) (n2 : Nat) (n3 : Nat) (n4 : Nat) : Statement (.picked station n1 n2 n3 n4) := fun _ h => nomatch h
theorem presented (station : StationId) : Statement (.presented station) := fun _ h => nomatch h
theorem taken (station : StationId) : Statement (.taken station) := fun _ h => nomatch h
theorem retracted (station : StationId) : Statement (.retracted station) := fun _ h => nomatch h
theorem dispenserFault (station : StationId) (code : Nat) : Statement (.dispenserFault station code) := fun _ h => nomatch h
theorem dispenseStepTimeout (station : StationId) : Statement (.dispenseStepTimeout station) := fun _ h => nomatch h
theorem hostFrame (frame : Frame) (check : Check) : Statement (.hostFrame frame check) := fun _ h => nomatch h
theorem hostByteTimeout : Statement (.hostByteTimeout) := fun _ h => nomatch h
theorem transmitDone : Statement (.transmitDone) := fun _ h => nomatch h
theorem yardClockStep : Statement (.yardClockStep) := fun _ h => nomatch h
theorem unknownRequest (tag : Byte) (kind : Byte) : Statement (.unknownRequest tag kind) := by
  intro f h
  change (if requestKinds.contains kind then none else some (⟨kind, tag, []⟩ : Frame)) = some f at h
  split at h
  · cases h
  · next hk =>
    cases h
    simp only [requestKinds, List.contains_eq_mem, List.mem_cons, List.not_mem_nil, or_false, decide_eq_true_eq, not_or] at hk
    exact .inr (by simp only [parseRequest, hk, if_false])
theorem partPing (tag : Byte) : Statement (.partPing tag) := by
  rintro f ⟨⟩
  exact .inl rfl
theorem partClock (tag : Byte) (seconds : Nat) : Statement (.partClock tag seconds) := by
  rintro f ⟨⟩
  exact .inl rfl
theorem partFilter (tag : Byte) (groups : Byte) : Statement (.partFilter tag groups) := by
  rintro f ⟨⟩
  exact .inl rfl
theorem partRestart (tag : Byte) : Statement (.partRestart tag) := by
  rintro f ⟨⟩
  exact .inl rfl
theorem partCounters (tag : Byte) : Statement (.partCounters tag) := by
  rintro f ⟨⟩
  exact .inl rfl
theorem laneOn (tag : Byte) (lane : Nat) : Statement (.laneOn tag lane) := by
  rintro f ⟨⟩
  exact .inl rfl
theorem laneOff (tag : Byte) (lane : Nat) : Statement (.laneOff tag lane) := by
  rintro f ⟨⟩
  exact .inl rfl
theorem laneSet (tag : Byte) (lane : Nat) (config : LaneConfigArgs) : Statement (.laneSet tag lane config) := by
  rintro f ⟨⟩
  exact .inl rfl
theorem laneGet (tag : Byte) (lane : Nat) (clearPeak : Bool) : Statement (.laneGet tag lane clearPeak) := by
  rintro f ⟨⟩
  exact .inl rfl
theorem laneJournal (tag : Byte) (lane : Nat) (first : Nat) (count : Nat) : Statement (.laneJournal tag lane first count) := by
  rintro f ⟨⟩
  exact .inl rfl
theorem laneCounters (tag : Byte) (lane : Nat) : Statement (.laneCounters tag lane) := by
  rintro f ⟨⟩
  exact .inl rfl
theorem classPut (tag : Byte) (number : Nat) (entry : ClassArgs) : Statement (.classPut tag number entry) := by
  rintro f ⟨⟩
  exact .inl rfl
theorem classRemove (tag : Byte) (number : Nat) : Statement (.classRemove tag number) := by
  rintro f ⟨⟩
  exact .inl rfl
theorem classGet (tag : Byte) (number : Nat) : Statement (.classGet tag number) := by
  rintro f ⟨⟩
  exact .inl rfl
theorem markPut (tag : Byte) (owner : Nat) (serial : Nat) (mark : Nat) : Statement (.markPut tag owner serial mark) := by
  rintro f ⟨⟩
  exact .inl rfl
theorem markRemove (tag : Byte) (sel : MarkSel) : Statement (.markRemove tag sel) := by
  rintro f ⟨⟩
  exact .inl rfl
theorem markGet (tag : Byte) (sel : MarkSel) : Statement (.markGet tag sel) := by
  rintro f ⟨⟩
  exact .inl rfl
theorem poolPut (tag : Byte) (pool : Nat) (accepted : BitVec 64) (overrides : List Override) : Statement (.poolPut tag pool accepted overrides) := by
  rintro f ⟨⟩
  exact .inl rfl
theorem poolRemove (tag : Byte) (pool : Nat) : Statement (.poolRemove tag pool) := by
  rintro f ⟨⟩
  exact .inl rfl
theorem poolGet (tag : Byte) (pool : Nat) : Statement (.poolGet tag pool) := by
  rintro f ⟨⟩
  exact .inl rfl
theorem accountPut (tag : Byte) (number : Nat) (fields : AccountArgs) : Statement (.accountPut tag number fields) := by
  rintro f ⟨⟩
  exact .inl rfl
theorem accountRemove (tag : Byte) (sel : AccountSel) : Statement (.accountRemove tag sel) := by
  rintro f ⟨⟩
  exact .inl rfl
theorem accountGet (tag : Byte) (sel : AccountSel) : Statement (.accountGet tag sel) := by
  rintro f ⟨⟩
  exact .inl rfl
theorem sightHold (tag : Byte) (period : Nat) : Statement (.sightHold tag period) := by
  rintro f ⟨⟩
  exact .inl rfl
theorem sightFind (tag : Byte) (owner : Nat) (serial : Nat) : Statement (.sightFind tag owner serial) := by
  rintro f ⟨⟩
  exact .inl rfl
theorem sightForget (tag : Byte) (owner : Nat) (serial : Nat) : Statement (.sightForget tag owner serial) := by
  rintro f ⟨⟩
  exact .inl rfl
theorem dropOpen (tag : Byte) (lane : Nat) (account : Nat) (driver : List Byte) (declarations : List Declaration) : Statement (.dropOpen tag lane account driver declarations) := by
  rintro f ⟨⟩
  exact .inl rfl
theorem dropClose (tag : Byte) (number : Nat) : Statement (.dropClose tag number) := by
  rintro f ⟨⟩
  exact .inl rfl
theorem dropResolve (tag : Byte) (number : Nat) (entries : List ResolveArgs) : Statement (.dropResolve tag number entries) := by
  rintro f ⟨⟩
  exact .inl rfl
theorem dropApprove (tag : Byte) (number : Nat) (writeOff : Bool) : Statement (.dropApprove tag number writeOff) := by
  rintro f ⟨⟩
  exact .inl rfl
theorem dropAbandon (tag : Byte) (number : Nat) : Statement (.dropAbandon tag number) := by
  rintro f ⟨⟩
  exact .inl rfl
theorem dropGet (tag : Byte) (sel : DropSel) (part : DropPart) : Statement (.dropGet tag sel part) := by
  rintro f ⟨⟩
  exact .inl rfl
theorem recordCredit (tag : Byte) (number : Nat) : Statement (.recordCredit tag number) := by
  rintro f ⟨⟩
  exact .inl rfl
theorem recordClear (tag : Byte) (sel : ClearSel) : Statement (.recordClear tag sel) := by
  rintro f ⟨⟩
  exact .inl rfl
theorem recordGet (tag : Byte) (sel : RecordSel) : Statement (.recordGet tag sel) := by
  rintro f ⟨⟩
  exact .inl rfl
theorem stationOpen (tag : Byte) (station : Nat) : Statement (.stationOpen tag station) := by
  rintro f ⟨⟩
  exact .inl rfl
theorem stationClose (tag : Byte) (station : Nat) : Statement (.stationClose tag station) := by
  rintro f ⟨⟩
  exact .inl rfl
theorem stationLoad (tag : Byte) (station : Nat) (cassettes : Four CassetteArgs) (claimPeriod : Nat) (takePeriod : Nat) (returnTally : Bool) : Statement (.stationLoad tag station cassettes claimPeriod takePeriod returnTally) := by
  rintro f ⟨⟩
  exact .inl rfl
theorem stationGet (tag : Byte) (station : Nat) : Statement (.stationGet tag station) := by
  rintro f ⟨⟩
  exact .inl rfl
theorem hostByteReceived (byte : Byte) (stopOk : Bool) : Statement (.hostByteReceived byte stopOk) := fun _ h => nomatch h
theorem takeoffSettledFall (lane : LaneIdx) : Statement (.takeoffSettledFall lane) := fun _ h => nomatch h
theorem rejectSettledRelease (lane : LaneIdx) : Statement (.rejectSettledRelease lane) := fun _ h => nomatch h

end Sys2Proof.Laws.RequestKind
end

