-- ==== Sys2Proof/Tests/Slice0.lean ====
section
/-! SUPPORT. Small checks of the model on fixed values, and for every obligation with hypotheses a concrete state and operands that
meet them, clause by clause. -/

namespace Sys2Proof.Tests

open Sys2Proof Sys2Proof.Machine

set_option Elab.async false

/-! ## Well-formedness: an ill-formed term for each check -/

def refused (cs : List Instr) : Bool := cs.all (fun c => !WellFormed c)

def longFrame : Frame := ⟨0x01, 0, List.replicate 241 0⟩
def laneArgs : LaneConfigArgs := ⟨0, 0, 0, 2500, 20, 300, 150, 400, 8000, 3000, 60, 1, 8, 16⟩
def crateArgs : ClassArgs := ⟨12, 3, 0, 150, some 2, none⟩
def kegArgs : KegPartArgs := ⟨100, 20, 300, 50⟩
def accountArgs : AccountArgs := ⟨2, 0, 5000, 3, 0, 0⟩

theorem test_wf_accepts : [Instr.laneSet 1 1 laneArgs, .classPut 1 0 crateArgs, .classPut 1 0 { crateArgs with kind := 1, crate := none, keg := some kegArgs },
    .accountPut 1 21 accountArgs, .dropOpen 1 1 21 [65] [⟨3, 24⟩], .unknownRequest 1 0xF0, .hostFrame ⟨1, 2, List.replicate 240 0⟩ 0].all WellFormed = true := by
  decide +kernel

theorem test_wf_frames : refused [.headFrameDiscard 0 longFrame 0, .stationFrameDiscard .a longFrame 0, .hostFrame longFrame 0,
    .codeFrame 0 65536 0 0, .codeFrame 0 0 256 0, .codeFrame 0 0 0 16777216, .measureFrame 0 256 0, .measureFrame 0 0 65536,
    .statusFrame 0 256, .claimDeadlineExpiry 32, .claim .a 65536 0, .claim .a 0 65536, .picked .a 256 0 0 0, .picked .a 0 256 0 0,
    .picked .a 0 0 256 0, .picked .a 0 0 0 256, .dispenserFault .a 256, .unknownRequest 0 0x01] = true := by decide +kernel

theorem test_wf_lanes : refused [.partClock 0 4294967296, .laneOn 0 256, .laneOff 0 256, .laneGet 0 256 true, .laneCounters 0 256,
    .laneJournal 0 256 1 1, .laneJournal 0 1 281474976710656 1, .laneJournal 0 1 1 256, .laneSet 0 256 laneArgs,
    .laneSet 0 1 { laneArgs with kind := 256 }, .laneSet 0 1 { laneArgs with binding := 256 },
    .laneSet 0 1 { laneArgs with capacity := 256 }, .laneSet 0 1 { laneArgs with longLimit := 65536 },
    .laneSet 0 1 { laneArgs with stuckLimit := 256 }, .laneSet 0 1 { laneArgs with earlyHold := 65536 },
    .laneSet 0 1 { laneArgs with lateGrace := 65536 }, .laneSet 0 1 { laneArgs with measureAge := 65536 },
    .laneSet 0 1 { laneArgs with rejectWindow := 65536 }, .laneSet 0 1 { laneArgs with drainQuiet := 65536 },
    .laneSet 0 1 { laneArgs with drainLimit := 65536 }, .laneSet 0 1 { laneArgs with readWindow := 256 },
    .laneSet 0 1 { laneArgs with declareCount := 256 }, .laneSet 0 1 { laneArgs with clearRun := 256 }] = true := by decide

theorem test_wf_tables : refused [.classPut 0 256 crateArgs, .classPut 0 0 { crateArgs with owner := 65536 },
    .classPut 0 0 { crateArgs with type := 256 }, .classPut 0 0 { crateArgs with kind := 256 },
    .classPut 0 0 { crateArgs with deposit := 16777216 }, .classPut 0 0 { crateArgs with crate := some 256 },
    .classPut 0 0 { crateArgs with keg := some { kegArgs with tare := 65536 } },
    .classPut 0 0 { crateArgs with keg := some { kegArgs with ullage := 65536 } },
    .classPut 0 0 { crateArgs with keg := some { kegArgs with full := 65536 } },
    .classPut 0 0 { crateArgs with keg := some { kegArgs with charge := 16777216 } },
    .classRemove 0 256, .classGet 0 256, .markPut 0 65536 1 0, .markPut 0 0 16777216 0, .markPut 0 0 1 256,
    .markRemove 0 (.key 65536 1), .markRemove 0 (.key 0 16777216), .markGet 0 (.slot 256), .poolPut 0 256 0 [],
    .poolPut 0 0 0 [⟨256, 0⟩], .poolPut 0 0 0 [⟨0, 16777216⟩], .poolRemove 0 256, .poolGet 0 256] = true := by decide

theorem test_wf_long_lists : refused [.poolPut 0 0 0 (List.replicate 256 ⟨0, 0⟩), .dropOpen 0 1 1 (List.replicate 256 65) [],
    .dropOpen 0 1 1 [] (List.replicate 256 ⟨0, 0⟩), .dropResolve 0 1 (List.replicate 256 ⟨0, 0, 1, 1, 0⟩)] = true := by decide +kernel

theorem test_wf_accounts_and_sightings : refused [.accountPut 0 65536 accountArgs, .accountPut 0 1 { accountArgs with pool := 256 },
    .accountPut 0 1 { accountArgs with mode := 256 }, .accountPut 0 1 { accountArgs with cashLimit := 4294967296 },
    .accountPut 0 1 { accountArgs with tolerance := 256 }, .accountPut 0 1 { accountArgs with holdAbove := 281474976710656 },
    .accountPut 0 1 { accountArgs with state := 256 }, .accountRemove 0 (.number 65536), .accountGet 0 (.slot 256),
    .sightHold 0 16777216, .sightFind 0 65536 1, .sightFind 0 0 16777216, .sightForget 0 65536 1, .sightForget 0 0 16777216] = true := by
  decide

theorem test_wf_drops_and_stations : refused [.dropOpen 0 256 1 [] [], .dropOpen 0 1 65536 [] [], .dropOpen 0 1 1 [] [⟨256, 0⟩],
    .dropOpen 0 1 1 [] [⟨0, 16777216⟩], .dropClose 0 65536, .dropResolve 0 65536 [], .dropResolve 0 1 [⟨256, 0, 1, 1, 0⟩],
    .dropResolve 0 1 [⟨0, 256, 1, 1, 0⟩], .dropResolve 0 1 [⟨0, 0, 65536, 1, 0⟩], .dropResolve 0 1 [⟨0, 0, 1, 16777216, 0⟩],
    .dropResolve 0 1 [⟨0, 0, 1, 1, 16777216⟩], .dropApprove 0 65536 true, .dropAbandon 0 65536, .dropGet 0 (.number 65536) .summary,
    .dropGet 0 (.lane 256) .summary, .dropGet 0 (.number 1) (.lines 256), .recordCredit 0 65536, .recordClear 0 (.number 65536),
    .recordGet 0 (.number 65536), .recordGet 0 (.slot 256), .stationOpen 0 256, .stationClose 0 256, .stationGet 0 256,
    .stationLoad 0 256 (.const ⟨0, 0, 0⟩) 1800 30 false, .stationLoad 0 0 ⟨⟨16777216, 0, 0⟩, ⟨0, 0, 0⟩, ⟨0, 0, 0⟩, ⟨0, 0, 0⟩⟩ 1800 30 false,
    .stationLoad 0 0 ⟨⟨0, 0, 0⟩, ⟨0, 65536, 0⟩, ⟨0, 0, 0⟩, ⟨0, 0, 0⟩⟩ 1800 30 false,
    .stationLoad 0 0 ⟨⟨0, 0, 0⟩, ⟨0, 0, 0⟩, ⟨0, 0, 65536⟩, ⟨0, 0, 0⟩⟩ 1800 30 false,
    .stationLoad 0 0 ⟨⟨0, 0, 0⟩, ⟨0, 0, 0⟩, ⟨0, 0, 0⟩, ⟨16777216, 0, 0⟩⟩ 1800 30 false,
    .stationLoad 0 0 (.const ⟨0, 0, 0⟩) 16777216 30 false, .stationLoad 0 0 (.const ⟨0, 0, 0⟩) 1800 256 false] = true := by decide

/-! ## Values of the manual -/

/-- The frame check over the characters 1 to 9 (Table 10-2). -/
theorem test_check_of_digits : crcOf [49, 50, 51, 52, 53, 54, 55, 56, 57] = 0x29B1 := by decide +kernel

/-- The first code after power-on (R103). -/
theorem test_first_check_code : checkCodeAt (nextCheckPos 0) = 1730 := by decide +kernel

/-- Station B's cassettes in Table 8-4. -/
def cassettesB : Four Cassette := ⟨⟨5000, 40, 10, true⟩, ⟨2000, 3, 1, true⟩, ⟨1000, 10, 5, true⟩, ⟨500, 20, 5, true⟩⟩

/-- The breakdown of 13,700 in 8.8. -/
theorem test_breakdown : breakdown cassettesB 13700 = ⟨2, 1, 1, 1⟩ ∧ valueOf cassettesB ⟨2, 1, 1, 1⟩ = 13500 := by decide +kernel

/-- A request laid out by R184 is read back. -/
theorem test_lane_journal_frame : encodeRequest (.laneJournal 9 2 258 6) = some ⟨0x14, 9, [2, 2, 1, 0, 0, 0, 0, 6]⟩ ∧
    parseRequest ⟨0x14, 9, [2, 2, 1, 0, 0, 0, 0, 6]⟩ = some (.laneJournal 9 2 258 6) := by decide +kernel

/-! ## States to try things on -/

def base : State := { State.reset with now := 100000, host := { State.reset.host with clock := 99, clockBase := 99500 } }

theorem base_ready : base.ready := ⟨rfl, rfl, rfl⟩

def onLane (f : Lane → Lane) : State := base.modLane 0 f
def onStation (f : Station → Station) : State := base.modStation .b f

def upStation (state : StationState) (u : Station) : Station :=
  { u with state := state, link := .up 97000, cassettes := cassettesB }

def code0 : Code := ⟨12, 3, 4711⟩
def item0 : FwdItem := ⟨99000, some 97500, false, some ⟨.layers, 2⟩, none, .one code0, false⟩
def waiting0 : Waiting := ⟨{ item0 with longTimer := none, aCleared := some 99850 }, 99900⟩

/-- An accepted line of class 3: two items, 24 units at 150. -/
def line0 : Line := ⟨some 3, .accepted, 150, 2, 24⟩

def drop0 : DropRec :=
  { number := 340, lane := 0, account := 4471, driver := [], declarations := [], checkCode := 2208, lines := [line0],
    unresolved := .zero, reverse := 0, long := 0, rejects := 0, gateFault := false, drainCut := false, openStamp := 5,
    drainEndStamp := none, firstSeq := 1, lastSeq := none, station := some .b }

def inService (drop : Option LaneDrop) (l : Lane) : Lane :=
  { l with inService := true, gate := .idle, head := .present 98000, drop := drop }

/-- Lane L1 OPEN, IDLE, and DRAINING for its drain limit. -/
def lane0 : State := onLane (inService (some ⟨drop0, .opened⟩))
def idle0 : State := onLane (inService none)
def draining0 : State := onLane (inService (some ⟨drop0, .draining 40000⟩))
def gateIn (g : Gate) : State := lane0.modLane 0 (fun l => { l with gate := g })

def record0 : SettleRec :=
  { drop := drop0, state := .awaiting 100000, reasons := [], amount := 3600, cashPart := 3600, creditIssued := 0, cashPaid := 0,
    outstanding := 3600, unresolvedAmount := 0, retracts := 0, badChecks := 0, finalStamp := none }

def held0 : SettleRec := { record0 with state := .held, cashPart := 0, outstanding := 0 }
def final0 : SettleRec := { record0 with state := .paid, cashPaid := 3600, outstanding := 0, finalStamp := some 90 }

def storing (r : SettleRec) (s : State) : State := { s with store := [(0, r)] }

def dispense0 (step : Step) : Dispense := ⟨0, ⟨0, 1, 1, 1⟩, 3500, 30, step, 100000⟩
/-- Station B serving record 340 with 3,500 ordered. -/
def serving0 (step : Step) : State :=
  storing { record0 with state := .dispensing, outstanding := 3500, creditIssued := 100 }
    (onStation (upStation (.serving (dispense0 step))))

/-! ## One step each -/

/-- The claim at 100 in 8.8: answered, 13,500 ordered, 200 credited. -/
theorem test_claim : ∃ u, exec (.claim .b 340 2208) (storing { record0 with outstanding := 13700 } (onStation (upStation .opened))) = .next u ∧
    u.stationB.state = .serving ⟨0, ⟨2, 1, 1, 1⟩, 13500, 30, .pick, 110000⟩ ∧
    u.stationB.sent = [.answer 340 .queued 1 13700, .dispense 340 ⟨2, 1, 1, 1⟩ 30] ∧
    u.store.map (fun p => (p.2.outstanding, p.2.creditIssued)) = [(13500, 200)] := ⟨_, rfl, by decide +kernel⟩

/-- PICKED (2, 1, 1, 0) at 104 in 8.8: cassette 4 is taken as empty and 500 more is credited. -/
theorem test_picked_short : ∃ u, exec (.picked .b 2 1 1 0)
      (storing { record0 with state := .dispensing, outstanding := 13500, creditIssued := 200 }
        (onStation (upStation (.serving ⟨0, ⟨2, 1, 1, 1⟩, 13500, 30, .pick, 110000⟩)))) = .next u ∧
    u.stationB.cassettes.map Cassette.count = ⟨38, 2, 9, 0⟩ ∧ u.stationB.cassettes.c4.armed = false ∧
    u.stationB.state = .serving ⟨0, ⟨2, 1, 1, 1⟩, 13500, 30, .present ⟨2, 1, 1, 0⟩, 105000⟩ ∧
    u.store.map (fun p => (p.2.outstanding, p.2.creditIssued)) = [(13000, 700)] := ⟨_, rfl, by decide +kernel⟩

/-- A crate that leaves the gate downstream waits in its late grace. -/
theorem test_exit_waits : ∃ u, exec (.beamEdge 0 .b) ((gateIn (.exit waiting0.item)).modLane 0 (fun l =>
      { l with beamB := ⟨false, true, some 99997⟩, grace := some 99850 })) = .next u ∧
    (u.lane 0).gate = .idle ∧ ((u.lane 0).waiting.map Waiting.completed) = some 100000 ∧
    (u.lane 0).counters.forward = ⟨1, false⟩ := ⟨_, rfl, by decide +kernel⟩

/-! ## Witnesses: steps, resets, laws -/

theorem witness_EmptyQueueStep :
    ({ State.reset with rstHeld := true }.pending = [] ∧ { State.reset with rstHeld := true }.rstHeld = true) ∧
    (State.reset.pending = [] ∧ State.reset.rstHeld = false ∧ State.reset.own = []) ∧
    ({ State.reset with now := 1000 }.pending = [] ∧ { State.reset with now := 1000 }.rstHeld = false ∧
      { State.reset with now := 1000 }.own = [.command .yardClockStep]) := by decide +kernel

theorem witness_OwnEvents :
    ({ State.reset with now := 1000 }.timerRan .yardClockStep) ∧
    (State.reset.replyOut = false ∧
      { State.reset with host := { State.reset.host with reqBuf := [⟨0x22, 5, []⟩] } }.host.reqBuf = ⟨0x22, 5, []⟩ :: [] ∧
      parseRequest ⟨0x22, 5, []⟩ = none ∧ parseRequest ⟨0x22, 5, [3]⟩ = some (.classGet 5 3) ∧ State.reset.rstHeld = false) := by
  refine ⟨?_, by decide +kernel⟩
  unfold State.timerRan
  decide +kernel

theorem witness_HeldInReset : { base with rstHeld := true }.rstHeld = true ∧ Instr.transmitDone ≠ .powerOnReset ∧
    Instr.transmitDone ≠ .rstAssert ∧ (∀ i x h, Instr.transmitDone ≠ .beamLineChange i x h) ∧
    (∀ i h, Instr.transmitDone ≠ .takeoffLineChange i h) ∧ (∀ i h, Instr.transmitDone ≠ .rejectLineChange i h) :=
  ⟨rfl, nofun, nofun, nofun, nofun, nofun⟩

/-- Lane L1 OPEN and running, with a command waiting and a record in the store. -/
def lively : State := storing record0 { lane0.repace with pending := [.transmitDone] }

theorem witness_StepKeepsPacing : lively.pacingLaw ∧ ∃ t, step lively = .next t :=
  ⟨fun i => by revert i; decide +kernel, _, rfl⟩

theorem witness_StepKeepsQueues : lively.transmitterLaw ∧ lively.hostLaw ∧ lively.laneLaw ∧ lively.sightingLaw ∧ lively.storeLaw ∧
    lively.stationLaw ∧ ∃ t, step lively = .next t :=
  ⟨fun _ h => (by cases h), ⟨by decide +kernel, by unfold HostLink.noticeLaw; decide +kernel⟩, fun i => by revert i; decide +kernel,
    by unfold State.sightingLaw; decide +kernel, by unfold State.storeLaw; decide +kernel,
    fun x => by cases x <;> decide, _, rfl⟩

/-- The one record of `lively`. -/
theorem lively_record {k : SlotIdx} {r : SettleRec} (h : lively.recordAt k = some r) : r = record0 := by
  have e : lively.recordAt k = if k = 0 then some record0 else none := rfl
  rw [e] at h
  split at h
  · exact (Option.some.inj h).symm
  · cases h

theorem witness_StepNeverMakesMoney : lively.moneyLaw ∧ lively.storeLaw ∧ lively.claimLaw ∧ lively.balanceLaw ∧
    ∃ t, step lively = .next t :=
  ⟨by unfold State.moneyLaw; decide +kernel, by unfold State.storeLaw; decide +kernel,
    ⟨by decide, fun k => ⟨fun h => (by cases h), fun ⟨r, h, f⟩ => (by rw [lively_record h] at f; cases f)⟩,
      fun x => ⟨by cases x <;> decide,
        fun k => ⟨fun h => (by cases x <;> cases h), fun ⟨r, h, f, _⟩ => (by rw [lively_record h] at f; cases f)⟩,
        fun k => ⟨fun ⟨d, h, _⟩ => (by cases x <;> cases h), fun ⟨r, h, f, _⟩ => (by rw [lively_record h] at f; cases f)⟩⟩⟩,
    by unfold State.balanceLaw SettleRec.balanced; decide +kernel, _, rfl⟩

/-! ## Witnesses: frames of events -/

theorem witness_LaneEventFrame : eventLane (.takeoffPulse 0) = some 0 ∧ idle0.rstHeld = false ∧ (∃ u, exec (.takeoffPulse 0) idle0 = .next u) ∧
    (idle0.lane 0).quietPoint = none ∧ idle0.parkOrder = [] ∧ (idle0.lane 0).counting = false :=
  ⟨rfl, rfl, ⟨_, rfl⟩, by decide +kernel⟩

theorem witness_StationEventFrame :
    let s := { serving0 .pick with store := (0, { record0 with state := .dispensing }) :: [(1, final0)] }
    eventStation (.taken .b) = some .b ∧ s.rstHeld = false ∧ s.storeLaw ∧ s.parkOrder = [] ∧ (∃ u, exec (.taken .b) s = .next u) ∧
      s.recordAt 1 = some final0 ∧ (∀ d, (s.station .b).state.dispense = some d → d.slot ≠ 1) ∧ 1 ∉ (s.station .b).queue ∧
      (∀ n code, (Instr.taken .b = .claim .b n code ∨ ∃ f check, Instr.taken .b = .stationFrameDiscard .b f check ∧
        stationFrameOf f check = some (.claim n code)) → final0.drop.number ≠ n) :=
  ⟨rfl, rfl, by unfold State.storeLaw; decide +kernel, rfl, ⟨_, rfl⟩, by decide +kernel, by
    intro d h
    cases h
    decide, by decide +kernel, by rintro n code (h | ⟨f, check, h, _⟩) <;> cases h⟩

/-! ## Witnesses: frames and requests -/

theorem witness_RequestFramesReadBack :
    (WellFormed (.laneOn 5 255) = true ∧ encodeRequest (.laneOn 5 255) = some ⟨0x10, 5, [255]⟩) ∧
    (WellFormed (.recordClear 5 .all) = true ∧ encodeRequest (.recordClear 5 .all) = some ⟨0x51, 5, [1]⟩) ∧
    (WellFormed (.unknownRequest 5 0xFF) = true ∧ encodeRequest (.unknownRequest 5 0xFF) = some ⟨0xFF, 5, []⟩) ∧
    (WellFormed .transmitDone = true ∧ WellFormed (.faultClear 5) = true ∧ encodeRequest (.faultClear 5) = none) := by decide +kernel

theorem witness_BytesMakeFrameArrive :
    (Frame.mk 0x10 5 (List.replicate 240 0)).wf = true ∧ (Frame.mk 0x01 5 []).wf = true ∧ base.host.rx = .hunting := by decide +kernel

def hostIn (f : HostLink → HostLink) : State := { base with host := f base.host }
def ping0 : Frame := ⟨0x01, 5, []⟩

theorem witness_LinkReceivers :
    ((ping0.wf = true ∧ base.rstHeld = false ∧
      (hostIn (fun h => { h with reqBuf := List.replicate 3 ping0 })).host.reqBuf.length < 4 ∧
      4 ≤ (hostIn (fun h => { h with reqBuf := List.replicate 4 ping0 })).host.reqBuf.length ∧ ping0.check + 1 ≠ ping0.check) ∧
    (base.host.rx = .hunting ∧ (0xA7 : Byte) = 0xA7 ∧ (0xA6 : Byte) ≠ 0xA7 ∧
      (hostIn (fun h => { h with rx := .assembling [] 99999 })).host.rx = .assembling [] 99999 ∧
      (240 : Byte).toNat ≤ 240 ∧ 240 < (241 : Byte).toNat)) ∧
    (((hostIn (fun h => { h with rx := .assembling [] 99980 })).host.rx = .assembling [] 99980 ∧ 99980 + 20 ≤ base.now) ∧
    ((onLane (fun l => { l with headRx := .assembling [3] 99980 })).lane 0).headRx = .assembling [3] 99980 ∧
    ((onStation (fun u => { u with rx := .assembling [3] 99980 })).station .b).rx = .assembling [3] 99980 ∧
    (base.rstHeld = false ∧ headFrameOf ⟨0x09, 0, []⟩ (Frame.mk 0x09 0 []).check = none ∧
      headFrameOf ⟨0x02, 0, [2, 0, 0]⟩ (Frame.mk 0x02 0 [2, 0, 0]).check = none ∧
      stationFrameOf ⟨0x16, 0, [0]⟩ (Frame.mk 0x16 0 [0]).check = none) ∧
    (0 : Check) ≠ ping0.check) ∧
    (headFrameOf ⟨0x01, 0, [12, 0, 3, 0, 0, 0]⟩ (Frame.mk 0x01 0 [12, 0, 3, 0, 0, 0]).check = some (.code 12 3 0) ∧
      headFrameOf ⟨0x02, 0, [1, 144, 1]⟩ (Frame.mk 0x02 0 [1, 144, 1]).check = some (.measure 1 400) ∧
      headFrameOf ⟨0x03, 0, [0]⟩ (Frame.mk 0x03 0 [0]).check = some (.status 0)) ∧
    (stationFrameOf ⟨0x10, 0, []⟩ (Frame.mk 0x10 0 []).check = some .ready ∧
      stationFrameOf ⟨0x11, 0, [84, 1, 160, 8]⟩ (Frame.mk 0x11 0 [84, 1, 160, 8]).check = some (.claim 340 2208) ∧
      stationFrameOf ⟨0x12, 0, [2, 1, 1, 0]⟩ (Frame.mk 0x12 0 [2, 1, 1, 0]).check = some (.picked ⟨2, 1, 1, 0⟩) ∧
      stationFrameOf ⟨0x13, 0, []⟩ (Frame.mk 0x13 0 []).check = some .presented ∧
      stationFrameOf ⟨0x14, 0, []⟩ (Frame.mk 0x14 0 []).check = some .taken ∧
      stationFrameOf ⟨0x15, 0, []⟩ (Frame.mk 0x15 0 []).check = some .retracted ∧
      stationFrameOf ⟨0x16, 0, [255]⟩ (Frame.mk 0x16 0 [255]).check = some (.fault 255)) := by decide +kernel

def notice0 : Notice := ⟨2, ⟨0, 0⟩, .beamClear 0⟩

theorem witness_TransmitterAndNotices :
    (base.rstHeld = false ∧
    (hostIn (fun h => { h with reply := some ⟨1, 5, .ok, .none⟩ })).host.reply = some ⟨1, 5, .ok, .none⟩ ∧
    ((hostIn (fun h => { h with notices := [notice0] })).host.reply = none ∧
      (hostIn (fun h => { h with notices := [notice0] })).host.notices = notice0 :: []) ∧
    (base.host.reply = none ∧ base.host.notices = [])) ∧
    ((hostIn (fun h => { h with filter := 0xFD })).host.filter.getLsbD (NoticeBody.beamClear 0).group = false ∧
    (base.host.filter.getLsbD (NoticeBody.beamClear 0).group = true ∧ base.host.latch = false ∧
      (hostIn (fun h => { h with notices := List.replicate 62 notice0 })).host.notices.length < 63 ∧
      (hostIn (fun h => { h with notices := List.replicate 63 notice0 })).host.notices.length = 63) ∧
    (hostIn (fun h => { h with latch := true })).host.latch = true) := by decide

theorem witness_OutboundFrames : replyFields 0x42 (.count 2048) = some [0, 8] ∧ replyFields 0x51 (.count 32) = some [32] ∧
    entryRow (.abandoned .reversing 258 false) = some (4, [1, 2, 1, 0, 0]) ∧ entryRow (.fault .headBack) = some (7, [3, 0, 0]) := by
  decide +kernel

def restart0 : Frame := ⟨0x04, 7, []⟩

theorem witness_RequestsWaitTheirTurn : encodeRequest (.partPing 5) = some ping0 ∧
    (hostIn (fun h => { h with reply := some ⟨1, 5, .ok, .none⟩, reqBuf := List.replicate 3 ping0 })).replyOut = true ∧
    (hostIn (fun h => { h with reply := some ⟨1, 5, .ok, .none⟩, reqBuf := List.replicate 3 ping0 })).host.reqBuf.length < 4 ∧
    (hostIn (fun h => { h with tx := some (.reply ⟨1, 5, .ok, .none⟩), reqBuf := List.replicate 4 ping0 })).replyOut = true ∧
    4 ≤ (hostIn (fun h => { h with tx := some (.reply ⟨1, 5, .ok, .none⟩), reqBuf := List.replicate 4 ping0 })).host.reqBuf.length ∧
    (let s := hostIn (fun h => { h with reqBuf := [restart0, ping0, ping0] })
     s.rstHeld = false ∧ s.replyOut = false ∧ s.host.reqBuf = restart0 :: [ping0, ping0] ∧ parseRequest restart0 = some (.partRestart 7) ∧
       parseRequest restart0 ≠ some (.partPing 5) ∧ parseRequest ping0 = some (.partPing 5)) := by
  decide +kernel

/-- A restart taken from the head of the buffer leaves the requests behind it there (R182). -/
theorem test_restart_keeps_waiting :
    (match exec (.partRestart 7) (hostIn (fun h => { h with reqBuf := [restart0, ping0, ping0] })) with
     | .next t => decide (t.host.reqBuf = [ping0, ping0])
     | _ => false) = true := by decide +kernel

/-- PART.PING counts the requests behind it, not itself (R181). -/
theorem test_ping_counts_waiting :
    (match exec (.partPing 5) (hostIn (fun h => { h with tx := some (.notice notice0), reqBuf := [ping0, restart0, ping0, ping0] })) with
     | .next t => (match t.host.reply with
       | some ⟨_, _, _, .ping v⟩ => decide (v.waiting = 3)
       | _ => false)
     | _ => false) = true := by decide +kernel

theorem witness_PartRequests : (hostIn (fun h => { h with clockBase := 99000, clock := 4294967295 })).rstHeld = false ∧
    (hostIn (fun h => { h with clockBase := 99000, clock := 4294967295 })).host.clockBase + 1000 ≤ base.now ∧
    (hostIn (fun h => { h with clockBase := 99000, clock := 4294967295 })).host.clock ≤ 4294967295 ∧
    base.ready ∧ 4294967295 ≤ 4294967295 ∧ requestKinds.contains 0x06 = false :=
  ⟨rfl, by decide, by decide, base_ready, by decide, by decide⟩

theorem witness_RestartRule :
    (lane0.ready ∧ (lane0.lane 0).state ≠ .off ∧ (lane0.lane 0).state ≠ .idle) ∧
    ((storing record0 base).ready ∧ ∃ p ∈ (storing record0 base).store, p.2.final = false) ∧
    ((serving0 .pick).ready ∧ ((serving0 .pick).station .b).state.dispense ≠ none) ∧
    ((storing final0 idle0).ready ∧ (∀ i, ((storing final0 idle0).lane i).state = .off ∨ ((storing final0 idle0).lane i).state = .idle) ∧
      (∀ p ∈ (storing final0 idle0).store, p.2.final = true) ∧ (∀ x, ((storing final0 idle0).station x).state.dispense = none) ∧
      (storing final0 idle0).host.filter.getLsbD 0 = true) :=
  ⟨⟨⟨rfl, rfl, rfl⟩, by decide +kernel⟩, ⟨⟨rfl, rfl, rfl⟩, by decide +kernel⟩, ⟨⟨rfl, rfl, rfl⟩, by decide +kernel⟩,
    ⟨rfl, rfl, rfl⟩, by decide +kernel, by decide +kernel, (fun x => by cases x <;> rfl), by decide +kernel⟩

/-! ## Witnesses: lines and the gate -/

def lineIn (settled : Bool) (hold : Nat) : Debouncer := ⟨!settled, settled, some hold⟩

theorem witness_DebouncedLines : base.rstHeld = false ∧
    (((onLane (fun l => { l with takeoff := lineIn true 99997 })).lane 0).takeoff = lineIn true 99997 ∧ 99997 + 3 ≤ base.now) ∧
    (((onLane (fun l => { l with reject := lineIn true 99980 })).lane 0).reject = lineIn true 99980 ∧ 99980 + 20 ≤ base.now) ∧
    ((onLane (fun l => { l with beamA := lineIn false 99997, beamB := lineIn true 99997 })).lane 0).gate = .reset ∧
    ((onLane (fun l => { l with beamA := lineIn false 99997, beamB := lineIn true 99997 })).lane 0).beamA.hold = some 99997 ∧
    ((onLane (fun l => { l with beamA := lineIn false 99997, beamB := lineIn true 99997 })).lane 0).beamB.hold = some 99997 ∧
    ((onLane (fun l => { l with gate := .fault .both none, beamA := lineIn true 99997, beamB := lineIn false 99997 })).lane 0).gate =
      .fault .both none := by decide +kernel

/-- Lane L1 with a gate state and both holds run out, towards the other level than this one. -/
def edgeIn (g : Gate) (settled : Bool) : State :=
  (gateIn g).modLane 0 (fun l => { l with beamA := lineIn settled 99997, beamB := lineIn settled 99997 })

theorem witness_EdgeFollowsTable :
    (let s := (gateIn (.exitEnter item0 item0)).modLane 0 (fun l => { l with beamB := lineIn true 99997 })
     s.rstHeld = false ∧ (s.lane 0).gate.counting = true ∧ ((s.lane 0).beam .b).hold = some 99997 ∧ 99997 + 3 ≤ s.now) ∧
    ([Gate.idle, .enter item0, .span item0, .exit item0, .exitEnter item0 item0, .back 99000, .backSpan 99000, .backExit 99000].all
      (fun g => [false, true].all (fun settled =>
        decide ((edgeIn g settled).rstHeld = false) && decide (((edgeIn g settled).lane 0).gate = g) &&
        decide (((edgeIn g settled).lane 0).beamA.settled = settled) && decide (((edgeIn g settled).lane 0).beamA.hold = some 99997) &&
        decide (((edgeIn g settled).lane 0).beamB.settled = settled) && decide (((edgeIn g settled).lane 0).beamB.hold = some 99997) &&
        decide (99997 + 3 ≤ (edgeIn g settled).now))) = true) ∧
    (item0.code = .one code0 ∧ item0.headLost = false ∧ { item0 with headLost := true }.headLost = true ∧
      (∀ c, { item0 with code := .multi }.code ≠ .one c) ∧ (∀ c, { item0 with code := .none }.code ≠ .one c) ∧
      0 < ((edgeIn (.enter item0) true).lane 0).cfg.earlyHold ∧ ((edgeIn (.enter item0) true).lane 0).early = none ∧
      ((lane0.modLane 0 (fun l => { l with cfg := { l.cfg with earlyHold := 0 } })).lane 0).cfg.earlyHold = 0) :=
  ⟨by decide +kernel, by decide +kernel, rfl, rfl, rfl, nofun, nofun, by decide +kernel⟩

theorem witness_ForwardItemAtGate :
    (let s := lane0.modLane 0 (fun l => { l with beamA := lineIn false 99997, early := some ⟨code0, 99900⟩ })
     s.rstHeld = false ∧ (s.lane 0).gate = .idle ∧ (s.lane 0).waiting = none ∧ (s.lane 0).beamA.settled = false ∧
       (s.lane 0).beamA.hold = some 99997 ∧ 99997 + 3 ≤ s.now) ∧
    (let s := (gateIn (.enter item0)).modLane 0 (fun l => { l with beamB := lineIn false 99997 })
     (s.lane 0).gate = .enter item0 ∧ (s.lane 0).beamB.settled = false ∧ (s.lane 0).beamB.hold = some 99997) ∧
    (let s := (gateIn (.span item0)).modLane 0 (fun l => { l with beamA := lineIn true 99997 })
     (s.lane 0).gate = .span item0 ∧ (s.lane 0).beamA.settled = true ∧ (s.lane 0).beamA.hold = some 99997) ∧
    (item0.longTimer = some 97500 ∧ item0.long = false ∧ 97500 + ((gateIn (.enter item0)).lane 0).cfg.longLimit ≤ base.now ∧
      ((gateIn (.enter item0)).lane 0).gate = .enter item0 ∧ ((gateIn (.span item0)).lane 0).gate = .span item0 ∧
      ((gateIn (.exitEnter item0 item0)).lane 0).gate = .exitEnter item0 item0) := by decide +kernel

theorem witness_BeamFaultRule :
    (let s := (gateIn (.span item0)).modLane 0 (fun l => { l with stuckA := some 80000 })
     s.rstHeld = false ∧ (s.lane 0).gate.counting = true ∧ (s.lane 0).stuck .a = some 80000 ∧
       80000 + (s.lane 0).cfg.stuckLimit * 1000 ≤ s.now) ∧
    (let s := gateIn (.fault .a (some 98000))
     s.rstHeld = false ∧ (s.lane 0).gate = .fault .a (some 98000) ∧ 98000 + 2000 ≤ s.now ∧ (s.lane 0).quietPoint = none) ∧
    (let s := draining0.modLane 0 (fun l => { l with gate := .fault .a (some 98000) })
     s.rstHeld = false ∧ (s.lane 0).gate = .fault .a (some 98000) ∧ 98000 + 2000 ≤ s.now ∧ (s.lane 0).quietPoint ≠ none) ∧
    abandonedEntries (.exitEnter item0 { item0 with long := true }) 100000 =
      [.abandoned .forward 1000 false, .abandoned .forward 1000 true] := by
  decide +kernel

/-! ## Witnesses: heads and capture -/

theorem witness_CodeRouting : (4095 ≤ 4095 ∧ 255 ≤ 255 ∧ 1048575 ≤ 1048575) ∧
    (lane0.rstHeld = false ∧ (lane0.lane 0).head = .present 98000 ∧ ((gateIn (.enter item0)).lane 0).head = .present 98000) ∧
    (let s := (gateIn (.exit item0)).modLane 0 (fun l => { l with grace := some 99900 })
     (s.lane 0).gate = .exit item0 ∧ (s.lane 0).grace ≠ none) ∧
    ((lane0.lane 0).gate = .idle ∧ (lane0.lane 0).grace = none ∧ 0 < (lane0.lane 0).cfg.earlyHold) ∧
    (((gateIn (.back 99900)).lane 0).gate = .back 99900 ∧ ((gateIn (.back 99900)).lane 0).grace = none) ∧
    (let s := lane0.modLane 0 (fun l => { l with cfg := { l.cfg with earlyHold := 0 } })
     (s.lane 0).gate = .idle ∧ (s.lane 0).grace = none ∧ (s.lane 0).cfg.earlyHold = 0) ∧
    (let s := lane0.modLane 0 (fun l => { l with grace := some 99900, waiting := some waiting0 })
     (s.lane 0).gate = .idle ∧ (s.lane 0).grace ≠ none) ∧
    (((gateIn (.backSpan 99900)).lane 0).gate = .backSpan 99900 ∧ ((gateIn (.backExit 99900)).lane 0).gate = .backExit 99900 ∧
      ((gateIn (.fault .b none)).lane 0).gate = .fault .b none) ∧
    ((base.lane 0).head = .off ∧ ((onLane (fun l => { l with head := .lost })).lane 0).head = .lost) := by decide +kernel

theorem witness_HeadFrames : base.rstHeld = false ∧ 65535 ≤ 65535 ∧ (lane0.lane 0).head = .present 98000 ∧ (base.lane 0).head = .off ∧
    ((onLane (fun l => { l with head := .lost })).lane 0).head = .lost ∧ 1 ≤ 255 ∧ 255 ≤ 255 ∧ 1 ≤ 1 ∧ 1 ≤ 255 := by decide +kernel

def sighting0 : Sighting := ⟨12, 4711, 0, some 340, 0, 0⟩

theorem witness_TimersEnd :
    (lane0.rstHeld = false ∧ (lane0.lane 0).head = .present 98000 ∧ 98000 + 2000 ≤ lane0.now) ∧
    (let s := lane0.modLane 0 (fun l => { l with early := some ⟨code0, 99700⟩ })
     (s.lane 0).early = some ⟨code0, 99700⟩ ∧ 99700 + (s.lane 0).cfg.earlyHold ≤ s.now) ∧
    (let s := lane0.modLane 0 (fun l => { l with grace := some 99850 })
     (s.lane 0).grace = some 99850 ∧ (s.lane 0).waiting = none ∧ (s.lane 0).quietPoint = none ∧
       99850 + (s.lane 0).cfg.lateGrace ≤ s.now) ∧
    (let s := draining0.modLane 0 (fun l => { l with grace := some 99850 })
     s.rstHeld = false ∧ (s.lane 0).grace = some 99850 ∧ (s.lane 0).waiting = none ∧ (s.lane 0).quietPoint ≠ none ∧
       99850 + (s.lane 0).cfg.lateGrace ≤ s.now) ∧
    (let s := lane0.modLane 0 (fun l => { l with rejects := [⟨2, 92000, 3, .accepted, 150, 12⟩] })
     (s.lane 0).rejects.getLast? = some ⟨2, 92000, 3, .accepted, 150, 12⟩ ∧ 92000 + (s.lane 0).cfg.rejectWindow ≤ s.now) ∧
    (let s := { base with now := 14400000, sightings := [sighting0] }
     s.rstHeld = false ∧ s.sightings = sighting0 :: [] ∧ sighting0.lastSeen + s.holdPeriod * 1000 ≤ s.now) := by decide +kernel

theorem witness_HandoverRule :
    (({ item0 with headLost := true }.headLost = true) ∧
    ({ item0 with code := .multi }.headLost = false ∧ { item0 with code := .multi }.code = .multi) ∧
    ({ item0 with code := .none }.headLost = false ∧ { item0 with code := .none }.code = .none) ∧
    (item0.headLost = false ∧ item0.code = .one code0 ∧ { item0 with sample := none }.sample = none ∧
      item0.sample = some ⟨.layers, 2⟩)) ∧
    (let s := lane0.modLane 0 (fun l => { l with grace := some 99850, waiting := some waiting0, beamA := lineIn false 99997 })
     s.rstHeld = false ∧ (s.lane 0).waiting = some waiting0 ∧ (s.lane 0).grace = some 99850 ∧ 99850 + (s.lane 0).cfg.lateGrace ≤ s.now ∧
       (s.lane 0).gate = .idle ∧ (s.lane 0).beamA.settled = false ∧ (s.lane 0).beamA.hold = some 99997 ∧ 99997 + 3 ≤ s.now) ∧
    (let s := (gateIn (.exit item0)).modLane 0 (fun l => { l with beamB := lineIn true 99997 })
     s.rstHeld = false ∧ (s.lane 0).beamB.settled = true ∧ (s.lane 0).beamB.hold = some 99997 ∧ (s.lane 0).gate = .exit item0 ∧
       (s.lane 0).grace = none) ∧
    (let s := (gateIn (.exitEnter item0 item0)).modLane 0 (fun l => { l with beamB := lineIn true 99997, grace := some 99950 })
     (s.lane 0).gate = .exitEnter item0 item0 ∧ (s.lane 0).grace ≠ none ∧ (s.lane 0).beamB.hold = some 99997) ∧
    ((lane0.lane 0).drop = some ⟨drop0, .opened⟩ ∧ (lane0.lane 0).state = .opened ∧ (draining0.lane 0).state = .draining ∧
      (idle0.lane 0).state ≠ .opened ∧ (idle0.lane 0).state ≠ .draining) := by decide +kernel

theorem witness_HandoverRule_stray :
    let s := idle0.modLane 0 (fun l => { l with grace := some 99850, waiting := some waiting0 })
    s.rstHeld = false ∧ (s.lane 0).grace = some 99850 ∧ (s.lane 0).waiting = some waiting0 ∧ (s.lane 0).drop = none ∧
      99850 + (s.lane 0).cfg.lateGrace ≤ s.now := by decide +kernel

/-! ## Witnesses: lane control and classification -/

theorem witness_OccupancyAndPacing :
    ((let s := onLane (fun l => { l with takeoff := lineIn false 99997 })
     s.rstHeld = false ∧ (s.lane 0).takeoff.settled = false ∧ (s.lane 0).takeoff.hold = some 99997 ∧ 99997 + 3 ≤ s.now ∧
       (s.lane 0).inService = false) ∧
    (let s := lane0.modLane 0 (fun l => { l with takeoff := lineIn false 99997, occupancy := 1 })
     (s.lane 0).inService = true ∧ 0 < (s.lane 0).occupancy) ∧
    ((lane0.lane 0).inService = true ∧ (lane0.lane 0).occupancy = 0 ∧ (lane0.lane 0).occupancy < (lane0.lane 0).cfg.capacity) ∧
    (let s := lane0.modLane 0 (fun l => { l with occupancy := 16 })
     (s.lane 0).cfg.capacity ≤ (s.lane 0).occupancy ∧ (s.lane 0).latch = false) ∧
    (let s := lane0.modLane 0 (fun l => { l with occupancy := 16, latch := true })
     (s.lane 0).cfg.capacity ≤ (s.lane 0).occupancy ∧ (s.lane 0).latch = true)) ∧
    ((base.lane 0).state = .off ∧ (idle0.lane 0).state = .idle ∧ (lane0.lane 0).state = .opened ∧
    (draining0.lane 0).state = .draining ∧
    ((lane0.modLane 0 (fun l => { l with latch := true })).lane 0).latch = true ∧
    ((gateIn (.fault .a none)).lane 0).gate.beamFault ≠ none ∧
    (let l := (lane0.modLane 0 (fun l => { l with occupancy := 12 })).lane 0
     l.latch = false ∧ l.gate.beamFault = none ∧ slowAt l.cfg.capacity ≤ l.occupancy) ∧
    (let l := (lane0.modLane 0 (fun l => { l with occupancy := 11 })).lane 0
     l.occupancy < slowAt l.cfg.capacity ∧ l.degraded = false ∧ l.head ≠ .lost) ∧
      (idle0.lane 0).pacing = .stop ∧ ({ base.lane 0 with pacing := .slow }).pacing = .slow ∧
      ({ base.lane 0 with pacing := .run }).pacing = .run) := by decide +kernel

def reject0 : RejectEntry := ⟨2, 99000, 3, .accepted, 150, 12⟩
def pressed0 : State := lane0.modLane 0 (fun l => { l with reject := lineIn false 99980, rejects := [reject0] })

theorem witness_RejectPressRule :
    (pressed0.rstHeld = false ∧ (pressed0.lane 0).reject.settled = false ∧ (pressed0.lane 0).reject.hold = some 99980 ∧
      99980 + 20 ≤ pressed0.now ∧ (pressed0.lane 0).counting = true ∧ (pressed0.lane 0).drop = some ⟨drop0, .opened⟩ ∧
      (pressed0.lane 0).rejects = reject0 :: [] ∧ lineOf drop0.lines (some 3) .accepted 150 = some line0 ∧ 1 ≤ line0.items ∧
      reject0.units ≤ line0.units ∧ lineOf drop0.lines (some 3) .damaged 0 = none ∧ drop0.lines.length < 32 ∧
      reject0.disposition = .accepted ∧ { reject0 with disposition := .heavy }.disposition = .heavy ∧
      (lineOf [line0, ⟨some 3, .damaged, 0, 65534, 65534⟩] (some 3) .damaged 0).map Line.items = some 65534 ∧ 65534 < 65535) ∧
    (let d := { drop0 with lines := [line0, ⟨some 3, .damaged, 0, 65535, 65535⟩] }
     let s := pressed0.modLane 0 (fun l => { l with drop := some ⟨d, .opened⟩ })
     (s.lane 0).counting = true ∧ (s.lane 0).drop = some ⟨d, .opened⟩ ∧ (s.lane 0).rejects = reject0 :: [] ∧
       (lineOf d.lines (some 3) .damaged 0).map Line.items = some 65535) ∧
    (let d := { drop0 with lines := List.replicate 32 line0 }
     let s := pressed0.modLane 0 (fun l => { l with drop := some ⟨d, .opened⟩ })
     (s.lane 0).drop = some ⟨d, .opened⟩ ∧ lineOf d.lines (some 3) .damaged 0 = none ∧ 32 ≤ d.lines.length) ∧
    (let s := pressed0.modLane 0 (fun l => { l with rejects := [] })
     (s.lane 0).inService = true ∧ (s.lane 0).rejects = []) ∧
    (let s := onLane (fun l => { l with reject := lineIn false 99980 })
     (s.lane 0).reject.settled = false ∧ (s.lane 0).reject.hold = some 99980 ∧ (s.lane 0).inService = false) := by decide +kernel

theorem witness_ReadQualityRule :
    (1 ≤ (lane0.lane 0).cfg.readWindow ∧ (lane0.lane 0).window.length ≤ (lane0.lane 0).cfg.readWindow ∧ (lane0.lane 0).degraded = false) ∧
    (let s := lane0.modLane 0 (fun l => { l with window := List.replicate 32 true, degraded := true })
     (s.lane 0).window.length ≤ (s.lane 0).cfg.readWindow ∧ (s.lane 0).degraded = true) ∧
    (let s := lane0.modLane 0 (fun l => { l with window := List.replicate 7 true })
     ((s.joinWindow 0 true).lane 0).degraded = true ∧ ((s.joinWindow 0 false).lane 0).degraded = false) ∧
    (let s := lane0.modLane 0 (fun l => { l with window := List.replicate 15 false, degraded := true })
     ((s.joinWindow 0 false).lane 0).degraded = false) := by decide +kernel

/-! Tables with an entry or two each. -/

def crate0 : ClassEntry := ⟨12, 3, 150, .crate 12⟩
def keg0 : ClassEntry := ⟨12, 4, 3000, .keg 100 20 300 50⟩
def mark0 : MarkEntry := ⟨12, 9, .barred⟩
def pool0 : PoolEntry := ⟨8, []⟩
def account0 : AccountEntry := ⟨4471, 2, .cash, 5000, 3, 0, .active⟩
def tables0 : Tables :=
  ⟨[(3, .fresh crate0), (4, .fresh keg0)], [(0, .fresh mark0)], [(2, .fresh pool0)], [(0, .fresh account0)]⟩
def tabled : State := { base with tables := tables0 }

/-- A crate of class 3 that leaves the gate, read and measured. -/
def crate1 : Item := ⟨99000, 99850, 99900, true, .ok code0 ⟨.layers, 2⟩⟩

theorem witness_ClassificationAddsOneItem :
    (lane0.lane 0).drop = some ⟨drop0, .opened⟩ ∧ (∀ c, (drop0.unresolved.get c).items < 4294967295) ∧
    (∀ c, (drop0.unresolved.get c).units + (lane0.ladder 0 drop0 crate1.capture).2.units ≤ 51539607540) ∧
    ((lane0.ladder 0 drop0 crate1.capture).2.outcome = .unresolved .unknownCode ∧ (lane0.ladder 0 drop0 crate1.capture).2.alerts = []) ∧
    (let s := tabled.modLane 0 (inService (some ⟨drop0, .opened⟩))
     let v := (s.ladder 0 drop0 crate1.capture).2
     v.outcome = .line .accepted ∧ v.cls = some 3 ∧ v.value = some 150 ∧ lineOf drop0.lines (some 3) .accepted 150 = some line0 ∧
       line0.items < 65535 ∧ 65535 ≤ { line0 with items := 65535 }.items ∧
       lineOf [] (some 3) .accepted 150 = none ∧ drop0.lines.length < 32 ∧
       lineOf (List.replicate 32 { line0 with value := 149 }) (some 3) .accepted 150 = none ∧
       32 ≤ (List.replicate 32 { line0 with value := 149 }).length) ∧
    (let s := { tabled.modLane 0 (fun l => { inService (some ⟨drop0, .opened⟩) l with cfg := { l.cfg with kind := .keg } }) with
       tables := { tables0 with pools := [(2, .fresh ⟨16, []⟩)] } }
     let v := (s.ladder 0 drop0 (.ok ⟨12, 4, 9⟩ ⟨.weight, 400⟩)).2
     v.outcome = .line .barred ∧ v.alerts = [.barred]) := by
  refine ⟨by decide +kernel, fun c => by cases c <;> decide, fun c => by cases c <;> decide +kernel, by decide +kernel, by decide +kernel, by decide +kernel⟩

/-- Lane L1 takes kegs; the account's pool accepts class 4 and the serial 9 is marked. -/
def kegs0 : State := { tabled.modLane 0 (fun l => { l with cfg := { l.cfg with kind := .keg } }) with
  tables := { tables0 with pools := [(2, .fresh ⟨16, [⟨4, 3100⟩]⟩)] } }

theorem witness_LadderRungs :
    (tabled.examineClasses.classOf 12 5 = none) ∧
    (tabled.examineClasses.classOf 12 4 = some (4, keg0) ∧ keg0.part.kind ≠ (tabled.lane 0).cfg.kind) ∧
    (tabled.examineClasses.classOf 12 3 = some (3, crate0) ∧ crate0.part.kind = (tabled.lane 0).cfg.kind ∧
      crate0.part = .crate 12 ∧ 12 < 13 ∧ 12 ≤ 12 ∧
      tabled.examineClasses.examineAccounts.accountOf 4472 = none ∧
      tabled.examineClasses.examineAccounts.accountOf 4471 = some (0, account0) ∧
      (tabled.examineClasses.examineAccounts.examinePoolAt 3).poolAt 3 = none ∧
      (tabled.examineClasses.examineAccounts.examinePoolAt 2).poolAt 2 = some pool0 ∧ pool0.accepted.getLsbD 3 = true ∧
      pool0.accepted.getLsbD 4 = false) ∧
    (let s3 := kegs0.examineClasses.examineAccounts.examinePoolAt 2
     kegs0.examineClasses.classOf 12 4 = some (4, keg0) ∧ keg0.part.kind = (kegs0.lane 0).cfg.kind ∧
       s3.poolAt 2 = some ⟨16, [⟨4, 3100⟩]⟩ ∧ (16 : BitVec 64).getLsbD 4 = true ∧ keg0.part = .keg 100 20 300 50 ∧
       s3.examineMarks.markAt 12 10 = none ∧ s3.examineMarks.markAt 12 9 = some (0, mark0) ∧ mark0.mark = .barred ∧
       { mark0 with mark := .inspect }.mark = .inspect) ∧
    (sightingOf { base with sightings := [sighting0] }.sightings code0.owner code0.serial = some sighting0) ∧
    (sightingOf base.sightings code0.owner code0.serial = none) ∧
    (300 ≤ 400 - 100) ∧ (399 - 100 < 300 ∧ 20 ≤ 120 - 100) ∧ (119 - 100 < 300 ∧ 119 - 100 < 20) := by decide +kernel

/-! ## Witnesses: money and drains -/

/-- What drop number 340 names in small states. -/
theorem holder_lane : lane0.holder 340 = .laneDrop 0 ⟨drop0, .opened⟩ := rfl

theorem holder_nobody : base.holder 340 = .nobody := rfl

theorem witness_CreditRules :
    (100 < record0.outstanding ∧ 3600 = record0.outstanding) ∧
    ((storing record0 base).rstHeld = false ∧ (storing record0 base).recordAt 0 = some record0 ∧ record0.state = .awaiting 100000 ∧
      100000 ≤ (storing record0 base).now) ∧
    ((storing record0 base).ready ∧ (340 : Nat) ≠ 0 ∧ (storing record0 base).holder 340 = .record 0 record0 ∧
      record0.state.tag = .awaiting) ∧
    ((storing held0 base).holder 340 = .record 0 held0 ∧ held0.state.tag ≠ .awaiting ∧ held0.state.tag ≠ .claimed) ∧
    (base.ready ∧ base.holder 340 = .nobody) ∧ (lane0.ready ∧ lane0.holder 340 = .laneDrop 0 ⟨drop0, .opened⟩) :=
  ⟨by decide, by decide +kernel, ⟨⟨rfl, rfl, rfl⟩, by decide, rfl, rfl⟩, ⟨rfl, by decide, by decide⟩,
    ⟨base_ready, holder_nobody⟩, ⟨rfl, rfl, rfl⟩, holder_lane⟩

theorem witness_SettlingDivides : (held0.cashPaid = 0 ∧ held0.unresolvedAmount = 0 ∧ held0.station = some .b) ∧
    (base.examineAccounts.accountOrStandIn 4471).mode = .credit ∧ (tabled.examineAccounts.accountOrStandIn 4471).mode = .cash ∧
    0 < held0.amount ∧ held0.drop.account = 4471 := by decide +kernel

def full0 : State := { draining0 with store := (List.range 32).map (fun k => (k, held0)) }

theorem witness_DrainEnds :
    (draining0.rstHeld = false ∧ (draining0.lane 0).inService = true ∧ (draining0.lane 0).drop = some ⟨drop0, .draining 40000⟩ ∧
      (draining0.lane 0).waiting = none ∧ draining0.parkOrder = [] ∧ draining0.freeSlot = some 0 ∧ (draining0.lane 0).gate = .idle ∧
      (draining0.lane 0).grace = none ∧ (draining0.lane 0).lastABlock = none ∧ 40000 + (draining0.lane 0).cfg.drainQuiet ≤ draining0.now ∧
      40000 + (draining0.lane 0).cfg.drainLimit * 1000 ≤ draining0.now) ∧
    (full0.rstHeld = false ∧ (full0.lane 0).inService = true ∧ (full0.lane 0).drop = some ⟨drop0, .draining 40000⟩ ∧
      (full0.lane 0).waiting = none ∧ full0.parkOrder = [] ∧ full0.freeSlot = none ∧ full0.finalOrder = [] ∧
      40000 + (full0.lane 0).cfg.drainLimit * 1000 ≤ full0.now) := by decide +kernel

/-- The store full, its slot 5 holding the one final record. -/
def oneFinal0 : State :=
  { full0 with store := (List.range 32).map (fun k => (k, if k = 5 then final0 else held0)), finalOrder := [5] }

theorem witness_EntryMakesRoom :
    (draining0.rstHeld = false ∧ (draining0.lane 0).drop = some ⟨drop0, .draining 40000⟩ ∧ (draining0.lane 0).gate = .idle ∧
      (draining0.lane 0).grace = none ∧ (draining0.lane 0).lastABlock = none ∧ 40000 + (draining0.lane 0).cfg.drainQuiet ≤ draining0.now ∧
      40000 + (draining0.lane 0).cfg.drainLimit * 1000 ≤ draining0.now ∧ (draining0.lane 0).waiting = none) ∧
    (let s := draining0.modLane 0 (fun l => { l with grace := some 99850, waiting := some waiting0 })
     (s.lane 0).drop = some ⟨drop0, .draining 40000⟩ ∧ (s.lane 0).grace ≠ none ∧ (s.lane 0).waiting = some waiting0) ∧
    ((idle0.lane 0).drop = none ∧ { full0 with parkOrder := [3] }.parkOrder ≠ []) ∧
    (draining0.freeSlot = some 0 ∧ full0.freeSlot = none ∧ full0.finalOrder = [] ∧ full0.enterStore 0 drop0 = none) ∧
    (oneFinal0.freeSlot = none ∧ oneFinal0.finalOrder = 5 :: [] ∧ oneFinal0.recordAt 5 = some final0 ∧
      (oneFinal0.enterStore 0 drop0).isSome = true) ∧
    ((∃ a, holdReasons drop0 a = []) ∧ ∃ a, holdReasons drop0 a ≠ []) ∧
    (let s := { draining0.modLane 0 (fun l => { l with drop := some ⟨drop0, .parked⟩ }) with parkOrder := [0] }
     s.parkOrder = 0 :: [] ∧ (s.lane 0).drop = some ⟨drop0, .parked⟩ ∧ ({ s with parkOrder := [] }.enterStore 0 drop0).isSome = true) :=
  ⟨by decide +kernel, by decide +kernel, by decide +kernel, by decide +kernel, by decide +kernel,
    ⟨⟨account0, by decide +kernel⟩, { account0 with state := .suspended }, by decide +kernel⟩, by decide +kernel⟩

/-! ## Witnesses: claims and stations -/

theorem witness_StationLinks :
    ((onStation (upStation .opened)).station .b).link = .up 97000 ∧ base.rstHeld = false ∧ (base.station .b).link = .lost ∧
    97000 + 3000 ≤ base.now ∧ (onStation (upStation .opened)).parkOrder = [] ∧
    ((onStation (upStation .closed)).station .b).state = .closed ∧ ((onStation (upStation .fault)).station .b).state = .fault ∧
    ((onStation (upStation .opened)).station .b).state.tag = .opened ∧ ((serving0 .pick).station .b).state.tag = .serving ∧
    ((onStation (upStation (.closing (dispense0 .pick)))).station .b).state.tag = .closing ∧
    (1 ≤ 1 ∧ 255 ≤ 255 ∧ ((onStation (upStation .opened)).station .b).queue = [] ∧ (base.station .b).state = .closed ∧
      (base.station .b).state.dispense = none ∧ ∀ n ∈ (Four.mk 0 0 0 255).toList, n ≤ 255) := by decide +kernel

/-- Station B serving one record while another waits for a claim. -/
def queueing0 : State := storing record0 (onStation (upStation (.serving ⟨1, ⟨0, 0, 0, 1⟩, 500, 30, .pick, 105000⟩)))
def claimed0 : State := storing record0 (onStation (upStation .opened))
/-- Station B with nothing to dispense. -/
def emptied0 : State := storing record0 (onStation (fun u => { upStation .opened u with cassettes := .const .unused }))

theorem witness_ClaimRules : (base.rstHeld = false ∧ 65535 ≤ 65535) ∧
    (queueing0.rstHeld = false ∧ queueing0.parkOrder = [] ∧ (queueing0.station .b).link = .up 97000 ∧
      (queueing0.station .b).state = .serving ⟨1, ⟨0, 0, 0, 1⟩, 500, 30, .pick, 105000⟩ ∧ record0.drop.number ≠ 0 ∧
      record0.drop.number ≤ 65535 ∧ record0.drop.checkCode ≤ 65535 ∧ queueing0.findRecord 340 = some (0, record0) ∧
      record0.station = some .b ∧ record0.state = .awaiting 100000 ∧ (queueing0.station .b).queue.length < 4) ∧
    (claimed0.parkOrder = [] ∧ (claimed0.station .b).link = .up 97000 ∧ (claimed0.station .b).state = .opened ∧
      (claimed0.station .b).queue = [] ∧ claimed0.findRecord 340 = some (0, record0) ∧
      0 < valueOf (claimed0.station .b).cassettes (breakdown (claimed0.station .b).cassettes record0.outstanding)) ∧
    ((emptied0.station .b).link = .up 97000 ∧ (emptied0.station .b).state = .opened ∧ emptied0.findRecord 340 = some (0, record0) ∧
      valueOf (emptied0.station .b).cassettes (breakdown (emptied0.station .b).cassettes record0.outstanding) = 0) ∧
    (let s := ({ emptied0 with parkOrder := [3] }).modStation .b (fun u => { u with link := .lost })
     s.rstHeld = false ∧ s.parkOrder = [3] ∧ (s.station .b).link = .lost ∧ (s.station .b).state = .opened ∧ (s.station .b).queue = [] ∧
       s.findRecord 340 = some (0, record0) ∧
       valueOf (s.station .b).cassettes (breakdown (s.station .b).cassettes record0.outstanding) = 0) := by decide +kernel

theorem witness_ClaimRefusals :
    (claimed0.rstHeld = false ∧ 0 ≤ 65535 ∧ 65535 ≤ 65535) ∧
    (claimed0.claimTable .b 0 0 = .unknownDrop ∧ claimed0.claimTable .b 65535 0 = .unknownDrop ∧
      claimed0.claimTable .a 340 2208 = .wrongStation ∧ (emptied0.modStation .b (fun u => { u with state := .fault })).claimTable
        .b 340 2208 = .stationOut) ∧
    (claimed0.findRecord 340 = some (0, record0) ∧ claimed0.claimTable .b 340 65535 = .badCheck) ∧
    (let s := storing { record0 with badChecks := 2 } claimed0
     s.findRecord 340 = some (0, { record0 with badChecks := 2 }) ∧ s.claimTable .b 340 2209 = .locked) := by decide +kernel

theorem witness_BreakdownRule :
    let s := storing record0 (onStation (fun u => { upStation .opened u with queue := [0] }))
    (s.station .b).state = .opened ∧ (s.station .b).queue = [0] ∧ s.recordAt 0 = some record0 ∧ (s.station .b).cassettes = cassettesB ∧
      record0.outstanding = 3600 := by decide +kernel

theorem witness_PickRule :
    let d := dispense0 .pick
    let r := { record0 with state := .dispensing, outstanding := 3500, creditIssued := 100 }
    let mk := StationState.serving
    let s := serving0 .pick
    (s.rstHeld = false ∧ (s.station .b).link = .up 97000 ∧ (mk = StationState.serving ∨ mk = StationState.closing) ∧
      (s.station .b).state = mk d ∧ d.step = .pick ∧ s.recordAt d.slot = some r ∧ d.ordered = ⟨0, 1, 1, 1⟩) ∧
    (((onStation (upStation (.closing d))).station .b).state = StationState.closing d) ∧
    ((∀ n ∈ d.ordered.toList, n ≤ 255) ∧ valueOf (s.station .b).cassettes d.ordered = r.outstanding) ∧
    (valueOf (s.station .b).cassettes ⟨0, 1, 1, 0⟩ < r.outstanding ∧ 0 < valueOf (s.station .b).cassettes ⟨0, 1, 1, 0⟩) ∧
    (valueOf (s.station .b).cassettes ⟨0, 0, 0, 0⟩ = 0 ∧ 0 < r.outstanding) ∧
    ((∀ n ∈ (Four.mk 0 1 2 255).toList, n ≤ 255) ∧ d.ordered.c3 < 2) :=
  ⟨⟨rfl, rfl, Or.inl rfl, rfl, rfl, rfl, rfl⟩, rfl, by decide +kernel, by decide +kernel, by decide +kernel, by decide +kernel⟩

theorem witness_PresentedTaken :
    (let s := serving0 (.present ⟨0, 1, 1, 1⟩)
     s.rstHeld = false ∧ (s.station .b).link = .up 97000 ∧ (s.station .b).state = .serving (dispense0 (.present ⟨0, 1, 1, 1⟩)) ∧
       s.parkOrder = []) ∧
    (full0.freeSlot = none ∧ full0.finalOrder = []) ∧
    (let s := onStation (upStation (.closing (dispense0 (.present ⟨0, 1, 1, 1⟩))))
     (s.station .b).link = .up 97000 ∧ (s.station .b).state = .closing (dispense0 (.present ⟨0, 1, 1, 1⟩))) ∧
    ((onStation (upStation .opened)).station .b).state.dispense = none := by decide +kernel

/-- Station B closing behind a dispense whose notes are presented. -/
def closing0 : State :=
  storing { record0 with state := .dispensing, outstanding := 3500, creditIssued := 100 }
    (onStation (upStation (.closing (dispense0 (.outcome ⟨0, 1, 1, 1⟩)))))

theorem witness_OutcomeRules :
    (let s := serving0 (.outcome ⟨0, 1, 1, 1⟩)
     let r := { record0 with state := .dispensing, outstanding := 3500, creditIssued := 100 }
     s.rstHeld = false ∧ s.parkOrder = [] ∧ (s.station .b).link = .up 97000 ∧
       (s.station .b).state = .serving (dispense0 (.outcome ⟨0, 1, 1, 1⟩)) ∧ (s.station .b).queue = [] ∧ s.recordAt 0 = some r ∧
       r.station = some .b ∧ 0 < r.outstanding ∧ (s.station .b).retractValue + r.outstanding ≤ 281474976710655 ∧
       (s.station .b).retractNotes + noteCount ⟨0, 1, 1, 1⟩ ≤ 4294967295 ∧ r.retracts = 0 ∧ 0 < { r with retracts := 1 }.retracts) ∧
    (closing0.rstHeld = false ∧ closing0.parkOrder = [] ∧ (closing0.station .b).link = .up 97000 ∧
      (closing0.station .b).state = .closing (dispense0 (.outcome ⟨0, 1, 1, 1⟩)) ∧
      closing0.recordAt 0 = some { record0 with state := .dispensing, outstanding := 3500, creditIssued := 100 }) ∧
    (let s := storing record0 (onStation (fun u => { upStation .opened u with queue := [0] }))
     (s.station .b).state = .opened ∧ (s.station .b).queue = 0 :: [] ∧ s.recordAt 0 = some record0 ∧
       0 < valueOf (s.station .b).cassettes (breakdown (s.station .b).cassettes record0.outstanding)) ∧
    (let s := emptied0.modStation .b (fun u => { u with queue := [0] })
     (s.station .b).queue = 0 :: [] ∧ s.recordAt 0 = some record0 ∧
       valueOf (s.station .b).cassettes (breakdown (s.station .b).cassettes record0.outstanding) = 0) := by decide +kernel

theorem witness_DispenseFailure :
    (let s := serving0 .pick
     s.rstHeld = false ∧ (s.station .b).link = .up 97000 ∧ (s.station .b).state = .serving (dispense0 .pick) ∧
       s.recordAt 0 = some { record0 with state := .dispensing, outstanding := 3500, creditIssued := 100 } ∧ record0.station = some .b ∧
       (s.station .b).queue = [] ∧ (dispense0 .pick).slot = 0 ∧ (dispense0 .pick).timeout ≤ s.now) ∧
    ((closing0.station .b).state = .closing (dispense0 (.outcome ⟨0, 1, 1, 1⟩)) ∧
      (dispense0 (.outcome ⟨0, 1, 1, 1⟩)).step ≠ .pick ∧ 1 ≤ 1 ∧ 255 ≤ 255 ∧ 97000 + 3000 ≤ closing0.now ∧
      (∀ n ∈ (Four.mk 0 0 0 255).toList, n ≤ 255)) ∧
    ((∀ n, (dispense0 .pick).step ≠ .present n) ∧ (∀ n, (dispense0 .pick).step ≠ .outcome n)) ∧
    (let r := { record0 with state := .dispensing }
     let s := (queueing0.setRecord 1 r).modStation .b (fun u => { u with queue := [0] })
     s.recordAt 1 = some r ∧ r.station = some .b ∧ (1 : SlotIdx) ∉ (s.station .b).queue ∧ (0 : SlotIdx) ∈ (s.station .b).queue ∧
       s.recordAt 0 = some record0 ∧ record0.station = some .b) ∧
    (((serving0 .pick).modStation .b (fun u => { u with link := .lost })).station .b).link = .lost :=
  ⟨by decide +kernel, by decide +kernel, ⟨nofun, nofun⟩, by decide +kernel, by decide +kernel⟩

/-! ## Witnesses: lane, table and sighting requests -/

theorem witness_LaneSwitching : ((0 < 1 ∨ 6 < 0) ∧ (7 < 1 ∨ 6 < 7)) ∧
    (base.ready ∧ (base.lane 0).state = .off ∧ (idle0.lane 0).state ≠ .off) ∧
    (idle0.ready ∧ (idle0.lane 0).state = .idle ∧ (idle0.lane 0).waiting = none ∧ (idle0.lane 0).gate.abandoned idle0.now = []) ∧
    (let s := idle0.modLane 0 (fun l => { l with
       gate := .exitEnter item0 item0, waiting := some waiting0, grace := some 99850, early := some ⟨code0, 99900⟩ })
     s.ready ∧ (s.lane 0).state = .idle ∧ (s.lane 0).waiting = some waiting0 ∧ (s.lane 0).gate = .exitEnter item0 item0) ∧
    laneConfigOf ⟨1, 2, 2, 10000, 120, 0, 500, 2000, 30000, 20000, 600, 3, 128, 128⟩ =
      some ⟨.keg, .none, 32, 10000, 120, 0, 500, 2000, 30000, 20000, 600, 128, 128, 128⟩ :=
  ⟨by decide, ⟨base_ready, by decide +kernel⟩, ⟨⟨rfl, rfl, rfl⟩, by decide +kernel⟩, ⟨⟨rfl, rfl, rfl⟩, by decide +kernel⟩, by decide⟩

theorem witness_LaneReads : base.ready ∧ 1 ≤ 1 ∧ 6 ≤ 6 ∧ 1 ≤ 281474976710655 ∧ 281474976710655 ≤ 281474976710655 :=
  ⟨base_ready, by decide⟩

theorem witness_OutOfRangeRefused : base.ready ∧ ((0 < 1 ∨ 6 < 0) ∧ (7 < 1 ∨ 6 < 7)) ∧
    ((499 < 500 ∨ 10000 < 499) ∧ (499 < 500 ∨ 10000 < 10001) ∧ (base.lane 0).state = .off ∧ (idle0.lane 0).state ≠ .off) ∧ 6 < 7 ∧ 1 < 2 ∧
    (59 < 60 ∧ 86400 < 86401 ∧ (∃ c ∈ (Four.mk (CassetteArgs.mk 0 1 0) ⟨0, 0, 0⟩ ⟨0, 0, 0⟩ ⟨0, 0, 0⟩).toList,
      100000 < c.denomination ∨ 2000 < c.count ∨ 2000 < c.threshold ∨ (c.denomination = 0 ∧ 0 < c.count))) ∧
    63 < 64 ∧ 4095 < 4096 ∧ 999999 < 1000000 ∧ 1048575 < 1048576 ∧ 127 < 128 ∧ 15 < 16 ∧ 65535 < 65536 ∧ 255 < 256 ∧
    (¬ ([Override.mk 3 0, ⟨3, 1⟩].map Override.cls).Nodup ∧ (8 : BitVec 64).getLsbD 4 = false) ∧
    (16 < (List.replicate 17 (65 : Byte)).length ∧ ∃ c ∈ [(31 : Byte)], c.toNat < 32 ∨ 126 < c.toNat) ∧ 31 < 32 :=
  ⟨base_ready, by decide +kernel⟩

theorem witness_ExaminationRule :
    (assocGet [(3, TableEntry.usable crate0 keg0)] 3 = some (.usable crate0 keg0) ∧ crate0 ≠ keg0 ∧
      brokenEntries [(3, TableEntry.usable crate0 keg0), (4, .fresh keg0), (5, .unusable)] = [3]) ∧
    (assocGet tabled.tables.classes 3 = some (.usable crate0 crate0) ∧ assocGet tabled.tables.marks 0 = some (.usable mark0 mark0) ∧
      assocGet tabled.tables.pools 2 = some (.usable pool0 pool0) ∧ assocGet tabled.tables.accounts 0 = some (.usable account0 account0)) ∧
    (tabled.classOf 12 3 = some (3, crate0) ∧ tabled.classOf 12 5 = none ∧ tabled.markAt 12 9 = some (0, mark0) ∧
      tabled.markAt 12 10 = none ∧ tabled.accountOf 4471 = some (0, account0) ∧ tabled.accountOf 4472 = none) ∧
    base.yard.tableFaults < 4294967296 := by decide +kernel

theorem witness_ClassAndMarkRequests :
    (tabled.ready ∧ 3 ≤ 63 ∧
      classEntryOf ⟨12, 3, 0, 150, some 12, none⟩ = some crate0 ∧
      findKey (fun o => decide (o.owner = crate0.owner) && decide (o.type = crate0.type)) (assocErase tabled.examineClasses.tables.classes 3) = none ∧
      (findKey (fun o => decide (o.owner = crate0.owner) && decide (o.type = crate0.type))
        (assocErase tabled.examineClasses.tables.classes 63)) = some (3, crate0) ∧
      assocGet tabled.tables.classes 3 = some (.usable crate0 crate0) ∧ assocGet tabled.tables.classes 63 = none ∧
      assocGet (assocSet tabled.tables.classes 5 (TableEntry.unusable (α := ClassEntry))) 5 = some .unusable) ∧
    (12 ≤ 4095 ∧ 1 ≤ 9 ∧ 9 ≤ 1048575 ∧ tabled.examineMarks.markAt 12 9 = some (0, mark0) ∧ tabled.examineMarks.markAt 12 10 = none ∧
      lowestFree 128 tabled.examineMarks.tables.marks = some 1 ∧
      lowestFree 128 ((List.range 128).map (fun k => (k, TableEntry.fresh mark0))) = none ∧
      lowestUnusable 128 ((List.range 128).map (fun k => (k, TableEntry.fresh mark0))) = none ∧
      lowestFree 128 (assocSet ((List.range 128).map (fun k => (k, TableEntry.fresh mark0))) 0 .unusable) = none ∧
      lowestUnusable 128 (assocSet ((List.range 128).map (fun k => (k, TableEntry.fresh mark0))) 0 .unusable) = some 0) ∧
    (0 ≤ 127 ∧ 127 ≤ 127 ∧ assocGet tabled.tables.marks 0 = some (.usable mark0 mark0) ∧ assocGet tabled.tables.marks 127 = none ∧
      assocGet ((tabled.setMarks [(0, .usable mark0 { mark0 with serial := 1 }), (127, .unusable)]).tables.marks) 0 =
        some (.usable mark0 { mark0 with serial := 1 }) ∧ mark0 ≠ { mark0 with serial := 1 } ∧
      assocGet ((tabled.setMarks [(0, .usable mark0 { mark0 with serial := 1 }), (127, .unusable)]).tables.marks) 127 = some .unusable ∧
      assocGet ((tabled.setClasses [(3, .usable crate0 { crate0 with deposit := 1 })]).tables.classes) 3 =
        some (.usable crate0 { crate0 with deposit := 1 }) ∧ crate0 ≠ { crate0 with deposit := 1 }) :=
  ⟨⟨⟨rfl, rfl, rfl⟩, by decide +kernel⟩, by decide +kernel⟩

theorem witness_PoolAndAccountRequests :
    (tabled.ready ∧ 2 ≤ 15 ∧ poolInRange 8 [⟨3, 999999⟩] = true ∧ assocGet tabled.tables.pools 2 = some (.usable pool0 pool0) ∧
      findKey (fun a => decide (a.pool = 2)) tabled.examineAccounts.tables.accounts = some (0, account0) ∧
      findKey (fun a => decide (a.pool = 15)) tabled.examineAccounts.tables.accounts = none ∧ assocGet tabled.tables.pools 15 = none) ∧
    (1 ≤ 65535 ∧ accountEntryOf 65535 ⟨2, 2, 99999999, 255, 0, 1⟩ = some ⟨65535, 2, .split, 99999999, 255, 0, .suspended⟩ ∧
      tabled.examineAccounts.accountOf 65535 = none ∧ lowestFree 256 tabled.examineAccounts.tables.accounts = some 1 ∧
      (accountEntryOf 1 ⟨15, 0, 0, 0, 0, 0⟩).map AccountEntry.pool = some 15 ∧
      tabled.examineAccounts.accountOf 4471 = some (0, account0) ∧
      (∀ i, (tabled.lane i).drop = none) ∧ tabled.store = [] ∧
      ((tabled.modLane 0 (inService (some ⟨drop0, .opened⟩))).lane 0).drop = some ⟨drop0, .opened⟩ ∧ drop0.account = 4471 ∧
      (tabled.examinePoolAt 2).poolAt 2 = some pool0 ∧ (tabled.examinePoolAt 15).poolAt 15 = none ∧
      accountEntryOf 4471 ⟨2, 0, 1, 0, 0, 0⟩ ≠ none ∧
      (tabled.examinePoolAt 2).examineAccounts.accountOf 4471 = some (0, account0) ∧
      lowestFree 256 (assocSet ((List.range 256).map (fun k => (k, TableEntry.fresh account0))) 0 .unusable) = none ∧
      lowestUnusable 256 (assocSet ((List.range 256).map (fun k => (k, TableEntry.fresh account0))) 0 .unusable) = some 0 ∧
      lowestUnusable 256 ((List.range 256).map (fun k => (k, TableEntry.fresh account0))) = none ∧
      ∃ p ∈ (storing record0 tabled).store, p.2.final = false ∧ p.2.drop.account = 4471) ∧
    (let pools := (tabled.setPools [(2, .usable pool0 { pool0 with accepted := 0 }), (15, .unusable)]).tables.pools
     pool0 ≠ { pool0 with accepted := 0 } ∧ assocGet pools 2 = some (.usable pool0 { pool0 with accepted := 0 }) ∧
       assocGet pools 15 = some .unusable) ∧
    (let accounts := (tabled.setAccounts [(0, .usable account0 { account0 with number := 1 }), (255, .unusable)]).tables.accounts
     0 ≤ 255 ∧ 255 ≤ 255 ∧ assocGet tabled.tables.accounts 0 = some (.usable account0 account0) ∧
       assocGet tabled.tables.accounts 255 = none ∧ account0.number = 4471 ∧ account0 ≠ { account0 with number := 1 } ∧
       assocGet accounts 0 = some (.usable account0 { account0 with number := 1 }) ∧ assocGet accounts 255 = some .unusable) :=
  ⟨⟨⟨rfl, rfl, rfl⟩, by decide +kernel⟩, by decide +kernel⟩

theorem witness_SightRequests :
    (base.ready ∧ 600 ≤ 600 ∧ 86400 ≤ 86400 ∧ 599 < 600 ∧ 86400 < 86401 ∧
      base.now < sighting0.lastSeen + 600 * 1000 ∧ sighting0.lastSeen + 600 * 1000 ≤ { base with now := 600000 }.now) ∧
    (4095 ≤ 4095 ∧ 1 ≤ 4711 ∧ 4711 ≤ 1048575 ∧ sightingOf [sighting0] 12 4711 = some sighting0 ∧ sightingOf [sighting0] 12 4712 = none) ∧
    (4095 < 4096 ∧ 1048575 < 1048576) :=
  ⟨⟨base_ready, by decide +kernel⟩, by decide, by decide⟩

/-! ## Witnesses: drops, records, station requests, journals -/

theorem witness_NumberAndCodeAssigned : full0.store.length ≤ 32 ∧ (full0.lane 0).drop = some ⟨drop0, .draining 40000⟩ ∧
    full0.lastDrop ≤ 65535 ∧ { full0 with lastDrop := 65535 }.lastDrop ≤ 65535 ∧ checkCodeAt 0 = checkCodeAt 0 ∧ 9998 < 9999 := by
  decide +kernel

def openable0 : State := tabled.modLane 0 (inService none)

theorem witness_DropOpenAndClose :
    (openable0.ready ∧ (openable0.lane 0).state = .idle ∧ (openable0.lane 0).waiting = none ∧ 1 ≤ 4471 ∧ 4471 ≤ 65535 ∧
      driverInRange (List.replicate 16 126) = true ∧ declarationsInRange [⟨63, 999999⟩] = true ∧ openable0.examineAccounts = openable0 ∧
      openable0.accountOf 4471 = some (0, account0) ∧ assocGet openable0.tables.pools 2 = some (.usable pool0 pool0) ∧
      account0.state = .active) ∧
    (base.ready ∧ (base.lane 0).state ≠ .idle ∧ 1 ≤ 65535 ∧ driverInRange [] = true ∧ declarationsInRange [] = true) ∧
    (lane0.ready ∧ (340 : Nat) ≠ 0 ∧ lane0.findLaneDrop 340 = some (0, ⟨drop0, .opened⟩) ∧ drop0.number = 340 ∧
      (lane0.lane 0).drop = some ⟨drop0, .opened⟩ ∧ (lane0.lane 0).lastABlock = none ∧ 0 < (lane0.lane 0).cfg.drainQuiet) ∧
    (openable0.examineAccounts.accountOf 4472 = none ∧
      (openable0.examineAccounts.examinePoolAt 3).poolAt 3 = none ∧
      (openable0.examineAccounts.examinePoolAt 2).poolAt 2 = some pool0 ∧
      { account0 with state := .suspended }.state = .suspended) ∧
    ((openable0.modLane 0 (fun l => { l with grace := some 99850, waiting := some waiting0 })).lane 0).waiting = some waiting0 ∧
    (base.holder 340 = .nobody ∧ (storing held0 base).holder 340 = .record 0 held0 ∧ lane0.holder 340 = .laneDrop 0 ⟨drop0, .opened⟩ ∧
      draining0.holder 340 = .laneDrop 0 ⟨drop0, .draining 40000⟩ ∧ DropState.draining 40000 ≠ .opened) ∧
    (let s := lane0.modLane 0 (fun l => { l with lastABlock := some 97000 })
     s.holder 340 = .laneDrop 0 ⟨drop0, .opened⟩ ∧ (s.lane 0).gate = .idle ∧ (s.lane 0).grace = none ∧
       (s.lane 0).lastABlock = some 97000 ∧ 97000 + (s.lane 0).cfg.drainQuiet ≤ s.now) :=
  ⟨⟨⟨rfl, rfl, rfl⟩, by decide +kernel, by decide +kernel, by decide, by decide, by decide, by decide, rfl, by decide +kernel, by decide +kernel, rfl⟩,
    ⟨base_ready, by decide +kernel⟩, ⟨⟨rfl, rfl, rfl⟩, by decide +kernel⟩, by decide +kernel, rfl,
    ⟨holder_nobody, rfl, holder_lane, rfl, nofun⟩, rfl, by decide +kernel⟩

/-- A HELD record with two unread items of 24 units. -/
def unread0 : SettleRec := { held0 with drop := { drop0 with unresolved := { Unresolved.zero with unread := ⟨2, 24⟩ } } }

theorem witness_HeldRecordRequests :
    ((storing unread0 base).ready ∧ (storing unread0 base).holder 340 = .record 0 unread0 ∧ unread0.state = .held ∧ (340 : Nat) ≠ 0 ∧
      ([] : List ResolveArgs) = [] ∧ 8 < (List.replicate 9 (ResolveArgs.mk 0 3 2 24 150)).length ∧ 12 * 2 < 25) ∧
    (let es := [ResolveEntry.mk .unread 3 2 24 150]
     resolveEntriesOf [⟨0, 3, 2, 24, 150⟩] = some es ∧
       (∀ e ∈ es, e.items ≤ (unread0.drop.unresolved.get e.cause).items ∧ e.units ≤ (unread0.drop.unresolved.get e.cause).units) ∧
       (es.foldl DropRec.resolve unread0.drop).lines.length ≤ 32 ∧
       (∀ l ∈ (es.foldl DropRec.resolve unread0.drop).lines, l.disposition = .resolved → l.items ≤ 65535)) ∧
    (resolveEntriesOf [⟨0, 3, 3, 24, 150⟩] = some [⟨.unread, 3, 3, 24, 150⟩] ∧ (unread0.drop.unresolved.get .unread).items < 3 ∧
      resolveEntriesOf [⟨0, 3, 1, 1, 150⟩] = some [⟨.unread, 3, 1, 1, 150⟩] ∧ 12 * (2 - 1) < 24 - 1) ∧
    ((storing held0 base).holder 340 = .record 0 held0 ∧ held0.state = .held ∧ held0.drop.unresolved.items = 0) ∧
    ((storing record0 base).holder 340 = .record 0 record0 ∧ record0.state ≠ .held) ∧
    (unread0.drop.unresolved.items ≠ 0 ∧ unread0.drop.lines.length < 32 ∧ unread0.drop.unresolved.items ≤ 65535) ∧
    ((∀ l ∈ List.replicate 32 line0, l.disposition ≠ .writtenOff) ∧ 32 ≤ (List.replicate 32 line0).length) ∧
    base.holder 340 = .nobody ∧ lane0.holder 340 = .laneDrop 0 ⟨drop0, .opened⟩ :=
  ⟨⟨⟨rfl, rfl, rfl⟩, rfl, rfl, by decide, rfl, by decide, by decide⟩, by decide, by decide, ⟨rfl, rfl, by decide⟩, ⟨rfl, by decide⟩, by decide,
    by decide, holder_nobody, holder_lane⟩

theorem witness_AbandonRule :
    (lane0.ready ∧ lane0.findLaneDrop 340 = some (0, ⟨drop0, .opened⟩) ∧ (lane0.lane 0).drop = some ⟨drop0, .opened⟩ ∧
      drop0.number = 340 ∧ (lane0.lane 0).waiting = none ∧ (lane0.lane 0).inService = true ∧
      lane0.parkOrder.filter (fun j => decide (j ≠ (0 : LaneIdx))) = []) ∧
    ((storing held0 base).ready ∧ (storing held0 base).holder 340 = .record 0 held0 ∧ held0.state = .held ∧
      (storing held0 base).parkOrder = []) ∧
    (base.holder 340 = .nobody ∧ (storing record0 base).holder 340 = .record 0 record0 ∧ record0.state ≠ .held ∧
      lane0.holder 340 = .laneDrop 0 ⟨drop0, .opened⟩) :=
  ⟨⟨⟨rfl, rfl, rfl⟩, by decide +kernel⟩, ⟨⟨rfl, rfl, rfl⟩, rfl, rfl, rfl⟩,
    holder_nobody, rfl, nofun, holder_lane⟩

theorem witness_RecordReadsAndClear :
    ((storing final0 base).ready ∧ (storing final0 base).holder 340 = .record 0 final0 ∧ final0.final = true ∧ 31 ≤ 31) ∧
    ((storing held0 base).ready ∧ (storing held0 base).holder 340 = .record 0 held0 ∧ held0.final = false) ∧
    (lane0.ready ∧ lane0.holder 340 = .laneDrop 0 ⟨drop0, .opened⟩ ∧ (lane0.lane 0).drop = some ⟨drop0, .opened⟩) ∧
    (base.ready ∧ base.holder 340 = .nobody) ∧ (3 ∉ [4, 5] ∧ 5 ∈ [4, 5]) ∧ (storing final0 base).recordAt 0 = some final0 ∧
    ((base.lane 5).drop = none ∧ base.recordAt 31 = none ∧ 31 ≤ 31) :=
  ⟨⟨⟨rfl, rfl, rfl⟩, rfl, by decide, by decide⟩, ⟨⟨rfl, rfl, rfl⟩, rfl, by decide⟩,
    ⟨⟨rfl, rfl, rfl⟩, holder_lane, rfl⟩, ⟨base_ready, holder_nobody⟩, by decide, rfl, by decide +kernel⟩

theorem witness_StationRequests :
    ((onStation (upStation .closed)).ready ∧ ((onStation (upStation .closed)).station .b).state = .closed ∧
      ((onStation (upStation .closed)).station .b).link = .up 97000 ∧ (base.station .b).link = .lost ∧
      ((onStation (upStation .opened)).station .b).state = .opened ∧ ((onStation (upStation .opened)).station .b).state.tag = .opened) ∧
    (let s := storing { record0 with state := .claimed } (onStation (fun u => { upStation (.serving (dispense0 .pick)) u with queue := [0] }))
     (s.station .b).state = .serving (dispense0 .pick) ∧ (s.station .b).queue = [0] ∧
       s.recordAt 0 = some { record0 with state := .claimed } ∧ record0.station = some .b ) ∧
    (let claimed := { record0 with state := .claimed }
     let s := { onStation (fun u => { upStation (.serving ⟨2, ⟨0, 1, 1, 1⟩, 3500, 30, .pick, 100000⟩) u with queue := [1, 0] }) with
       store := [(0, claimed), (1, { claimed with drop := { drop0 with number := 341 } })] }
     s.ready ∧ (s.station .b).state.tag = .serving ∧ (s.station .b).queue = [1, 0] ∧ s.recordAt 0 = some claimed ∧
       claimed.station = some .b) ∧
    (((onStation (upStation (.closing (dispense0 .pick)))).station .b).state.tag = .closing) ∧
    (cassettesOf (.const ⟨100000, 2000, 2000⟩) = some (.const ⟨100000, 2000, 2000, true⟩) ∧ 60 ≤ 86400 ∧ 10 ≤ 120) :=
  ⟨⟨⟨rfl, rfl, rfl⟩, by decide +kernel⟩, by decide +kernel, ⟨⟨rfl, rfl, rfl⟩, by decide +kernel⟩, by decide +kernel, by decide⟩

def entry0 : JournalEntry := ⟨1, ⟨0, 0⟩, .fault .beamClear⟩

theorem witness_JournalAndCounterRule :
    (let j : Journal := ⟨List.replicate 256 entry0, 257, 0, true, true⟩
     j.entries.length ≤ 256 ∧ j.entries.length = 256 ∧ j.entries = entry0 :: List.replicate 255 entry0 ∧ j.readMark < entry0.seq ∧
       j.nextSeq < 281474976710655) ∧
    (Journal.empty.entries.length < 256) ∧
    (let j : Journal := ⟨List.replicate 127 entry0, 128, 0, true, true⟩
     128 ≤ (j.write 0 ⟨0, 0⟩ (.fault .beamClear)).1.unread ∧ (Journal.empty.write 0 ⟨0, 0⟩ (.fault .beamClear)).1.unread < 128) ∧
    (let j : Journal := ⟨List.replicate 256 entry0, 257, 1, true, true⟩
     j.entries = entry0 :: List.replicate 255 entry0 ∧ entry0.seq ≤ j.readMark) ∧
    (Counter.mk 1073741822 false).value < 1073741823 ∧ (Counter.mk 1073741823 false).value = 1073741823 := by decide +kernel

end Sys2Proof.Tests
end

section
/-! SUPPORT. What a settled line, a settled beam edge and an expired timer of the gate do, said once for each: the event taken, the cells of
Table 1-2 as equations, and what each operation of the gate leaves of the lane fields an edge does not speak of. -/

namespace Sys2Proof.Machine

/-! ## Debouncers -/

/-- A hold that started at `t` has run once its time has passed. -/
theorem Debouncer.ran_of_hold {d : Debouncer} {t ms now : Nat} (hh : d.hold = some t) (hn : t + ms ≤ now) : d.ran ms now = true := by
  simp only [Debouncer.ran, hh, hn, decide_true]

/-- A change of a line starts or cancels its hold while RST is released (R1, R43, R55). -/
theorem lineChanges_taken (s : State) (i : LaneIdx) (h : Bool) (hr : s.rstHeld = false) :
    (∀ x, exec (.beamLineChange i x h) s = .next (finish (s.modLane i (fun l => l.setBeam x ((l.beam x).lineChange h s.now))))) ∧
    exec (.takeoffLineChange i h) s = .next (finish (s.modLane i (fun l => { l with takeoff := l.takeoff.lineChange h s.now }))) ∧
    exec (.rejectLineChange i h) s = .next (finish (s.modLane i (fun l => { l with reject := l.reject.lineChange h s.now }))) := by
  refine ⟨fun x => ?_, ?_, ?_⟩
  · change execBeamLineChange i x h s = _
    rw [execBeamLineChange, hr, event_running _ hr]; rfl
  · change execTakeoffLineChange i h s = _
    rw [execTakeoffLineChange, hr, event_running _ hr]; rfl
  · change execRejectLineChange i h s = _
    rw [execRejectLineChange, hr, event_running _ hr]; rfl

/-- A settled edge whose hold has run is taken (R1, R3). -/
theorem exec_beamEdge {s : State} {i : LaneIdx} {x : Beam} {t : Nat} (hr : s.rstHeld = false)
    (hh : ((s.lane i).beam x).hold = some t) (hn : t + 3 ≤ s.now) : exec (.beamEdge i x) s = .next (finish (s.beamEdge i x)) := by
  change event _ s = _
  have ran : ((s.lane i).beam x).ran Config.beamHoldMs s.now = true := Debouncer.ran_of_hold hh hn
  rw [event_running _ hr, if_pos ran]

/-- A settled fall of the take-off line only settles (R43). -/
theorem exec_takeoffSettledFall {s : State} {i : LaneIdx} {t : Nat} (hr : s.rstHeld = false) (hs : (s.lane i).takeoff.settled = true)
    (hh : (s.lane i).takeoff.hold = some t) (hn : t + 3 ≤ s.now) :
    exec (.takeoffSettledFall i) s = .next (finish (s.modLane i (fun l => { l with takeoff := l.takeoff.settle }))) := by
  change event _ s = _
  have ran : (s.lane i).takeoff.ran Config.beamHoldMs s.now = true := Debouncer.ran_of_hold hh hn
  rw [event_running _ hr]
  simp only [ran, hs, Bool.and_self, if_true]

/-- A settled release of the reject button only settles (R55). -/
theorem exec_rejectSettledRelease {s : State} {i : LaneIdx} {t : Nat} (hr : s.rstHeld = false) (hs : (s.lane i).reject.settled = true)
    (hh : (s.lane i).reject.hold = some t) (hn : t + 20 ≤ s.now) :
    exec (.rejectSettledRelease i) s = .next (finish (s.modLane i (fun l => { l with reject := l.reject.settle }))) := by
  change event _ s = _
  have ran : (s.lane i).reject.ran Config.rejectHoldMs s.now = true := Debouncer.ran_of_hold hh hn
  rw [event_running _ hr]
  simp only [ran, hs, Bool.and_self, if_true]

/-! ## The test of the drain -/

/-- A drain is never quiet while the gate is away from IDLE (R106). -/
theorem quietTest_of_gate_ne_idle {s : State} {i : LaneIdx} (hg : (s.lane i).gate ≠ .idle) : s.quietTest i = s := by
  have notQuiet : (s.lane i).quiet s.now = false := by
    unfold Lane.quiet
    split
    · simp only [hg, decide_false, Bool.and_false, Bool.false_and]
    · rfl
  rw [State.quietTest, notQuiet]
  rfl

/-- Without a draining drop there is no drain to end (R106). -/
theorem quietTest_of_quietPoint_none {s : State} {i : LaneIdx} (hq : (s.lane i).quietPoint = none) : s.quietTest i = s := by
  have notQuiet : (s.lane i).quiet s.now = false := by simp only [Lane.quiet, hq]
  rw [State.quietTest, notQuiet]
  rfl

/-! ## A settled edge by the state of the gate -/

/-- The beam takes its new settled level (R1). -/
def State.settleBeam (s : State) (i : LaneIdx) (x : Beam) : State := s.modLane i (fun l => l.setBeam x (l.beam x).settle)

theorem beamEdge_eq (s : State) (i : LaneIdx) (x : Beam) :
    s.beamEdge i x = ((s.settleBeam i x).deliverEdge i x (!((s.lane i).beam x).settled)).quietTest i := rfl

@[simp] theorem setBeam_gate (l : Lane) (x : Beam) (d : Debouncer) : (l.setBeam x d).gate = l.gate := by cases x <;> rfl
@[simp] theorem setStuck_gate (l : Lane) (x : Beam) (t : Option Nat) : (l.setStuck x t).gate = l.gate := by cases x <;> rfl

@[simp] theorem gate_settleBeam (s : State) (i : LaneIdx) (x : Beam) : ((s.settleBeam i x).lane i).gate = (s.lane i).gate := by
  simp [State.settleBeam]

/-- In RESET an edge is delivered to nothing (R17). -/
theorem beamEdge_reset {s : State} {i : LaneIdx} (x : Beam) (hg : (s.lane i).gate = .reset) : s.beamEdge i x = s.settleBeam i x := by
  have hg' : ((s.settleBeam i x).lane i).gate = .reset := (gate_settleBeam s i x).trans hg
  rw [beamEdge_eq, State.deliverEdge, hg']
  exact quietTest_of_gate_ne_idle (by rw [hg']; exact nofun)

/-- In FAULT an edge drives the fault-clear timer (R15). -/
theorem beamEdge_fault {s : State} {i : LaneIdx} (x : Beam) {beams : FaultBeams} {timer : Option Nat}
    (hg : (s.lane i).gate = .fault beams timer) :
    s.beamEdge i x = (s.settleBeam i x).modLane i (fun l => { l with gate := .fault beams (l.faultTimer s.now) }) := by
  have hg' : ((s.settleBeam i x).lane i).gate = .fault beams timer := (gate_settleBeam s i x).trans hg
  rw [beamEdge_eq, State.deliverEdge, hg']
  exact quietTest_of_gate_ne_idle (by rw [lane_modLane_same]; exact nofun)

/-- The part once the beam has settled in a counting state and its stuck timer has been started or stopped (R1, R13). -/
def State.edgeSettled (s : State) (i : LaneIdx) (x : Beam) : State :=
  s.modLane i (fun l => (l.setBeam x (l.beam x).settle).setStuck x (if !(l.beam x).settled then some s.now else none))

@[simp] theorem gate_edgeSettled (s : State) (i : LaneIdx) (x : Beam) : ((s.edgeSettled i x).lane i).gate = (s.lane i).gate := by
  simp [State.edgeSettled]

/-- In a counting state an edge starts or stops its stuck timer and is applied by Table 1-2 (R3, R13). -/
theorem beamEdge_counting {s : State} {i : LaneIdx} (x : Beam) (hg : (s.lane i).gate.counting = true) :
    s.beamEdge i x = ((s.edgeSettled i x).countingEdge i x (!((s.lane i).beam x).settled)).quietTest i := by
  have timed : (s.settleBeam i x).modLane i (fun l => l.setStuck x (if !((s.lane i).beam x).settled then some s.now else none)) =
      s.edgeSettled i x := by
    rw [State.settleBeam, modLane_modLane]
    exact modLane_congr rfl
  rw [beamEdge_eq, ← timed, State.deliverEdge]
  split
  · next h => rw [gate_settleBeam] at h; rw [h] at hg; cases hg
  · next h => rw [gate_settleBeam] at h; rw [h] at hg; cases hg
  · rfl

/-- BEAM_EDGE in a counting state: what the beam and its stuck timer become, the cell of Table 1-2, and the test of the drain (R3, R106). -/
theorem exec_beamEdge_counting {s : State} {i : LaneIdx} {x : Beam} {t : Nat} (hr : s.rstHeld = false)
    (hg : (s.lane i).gate.counting = true) (hh : ((s.lane i).beam x).hold = some t) (hn : t + 3 ≤ s.now) :
    exec (.beamEdge i x) s =
      .next (finish (((s.edgeSettled i x).countingEdge i x (!((s.lane i).beam x).settled)).quietTest i)) := by
  rw [exec_beamEdge hr hh hn, beamEdge_counting x hg]

theorem edgeSettled_aBlocks {s : State} {i : LaneIdx} (hs : (s.lane i).beamA.settled = false) :
    s.edgeSettled i .a = s.modLane i (fun l => { l with beamA := { l.beamA with settled := true, hold := none }, stuckA := some s.now }) :=
  modLane_congr (by simp [Lane.setBeam, Lane.setStuck, Lane.beam, Debouncer.settle, hs])

theorem edgeSettled_aClears {s : State} {i : LaneIdx} (hs : (s.lane i).beamA.settled = true) :
    s.edgeSettled i .a = s.modLane i (fun l => { l with beamA := { l.beamA with settled := false, hold := none }, stuckA := none }) :=
  modLane_congr (by simp [Lane.setBeam, Lane.setStuck, Lane.beam, Debouncer.settle, hs])

theorem edgeSettled_bBlocks {s : State} {i : LaneIdx} (hs : (s.lane i).beamB.settled = false) :
    s.edgeSettled i .b = s.modLane i (fun l => { l with beamB := { l.beamB with settled := true, hold := none }, stuckB := some s.now }) :=
  modLane_congr (by simp [Lane.setBeam, Lane.setStuck, Lane.beam, Debouncer.settle, hs])

theorem edgeSettled_bClears {s : State} {i : LaneIdx} (hs : (s.lane i).beamB.settled = true) :
    s.edgeSettled i .b = s.modLane i (fun l => { l with beamB := { l.beamB with settled := false, hold := none }, stuckB := none }) :=
  modLane_congr (by simp [Lane.setBeam, Lane.setStuck, Lane.beam, Debouncer.settle, hs])

/-! ## The cells of Table 1-2 -/

/-- The most recent A-blocking time is noted and the late grace ends, a waiting item being handed on (R16, R27). -/
def State.noteABlock (s : State) (i : LaneIdx) : State := (s.modLane i (fun l => { l with lastABlock := some s.now })).endGrace i

/-- What the end of a late grace leaves: grace and waiting item gone, the rest as the item path leaves it (R27, R29). -/
theorem itemPath_endGrace (i : LaneIdx) (s : State) :
    ItemPath i (s.modLane i (fun l => { l with grace := none, waiting := none })) (s.endGrace i) := by
  unfold State.endGrace
  split
  · exact itemPath_handOver i _ _ _
  · next hw =>
    have same : s.modLane i (fun l => { l with grace := none, waiting := none }) = s.modLane i (fun l => { l with grace := none }) :=
      modLane_congr (by rw [hw])
    rw [same]
    exact .refl i _

@[simp] theorem noteABlock_now (s : State) (i : LaneIdx) : (s.noteABlock i).now = s.now := (acts_endGrace _ i).now

@[simp] theorem gate_noteABlock (s : State) (i : LaneIdx) : ((s.noteABlock i).lane i).gate = (s.lane i).gate := by
  rw [State.noteABlock, (itemPath_endGrace i _).gate]
  simp

/-- Without a waiting item the end of the grace clears its timer and nothing else (R27). -/
theorem noteABlock_of_none_waiting {s : State} {i : LaneIdx} (hw : (s.lane i).waiting = none) :
    s.noteABlock i = s.modLane i (fun l => { l with lastABlock := some s.now, grace := none }) := by
  unfold State.noteABlock State.endGrace
  split
  · next h => rw [lane_modLane_same] at h; exact absurd (hw.symm.trans h) nofun
  · rw [modLane_modLane]

theorem aBlocks_idle {s : State} {i : LaneIdx} (hg : (s.lane i).gate = .idle) :
    s.aBlocks i = (s.noteABlock i).modLane i (fun l => { l with gate := .enter (l.openItem s.now), early := none }) := by
  unfold State.aBlocks
  rw [← State.noteABlock]
  simp only [gate_noteABlock, hg, State.openWindow, noteABlock_now]

theorem aBlocks_exit {s : State} {i : LaneIdx} {it : FwdItem} (hg : (s.lane i).gate = .exit it) :
    s.aBlocks i = (s.noteABlock i).modLane i (fun l => { l with gate := .exitEnter it (l.openItem s.now), early := none }) := by
  unfold State.aBlocks
  rw [← State.noteABlock]
  simp only [gate_noteABlock, hg, State.openWindow, noteABlock_now]

theorem aBlocks_back {s : State} {i : LaneIdx} {seen : Nat} (hg : (s.lane i).gate = .back seen) :
    s.aBlocks i = (s.noteABlock i).setGate i (.backSpan seen) := by
  unfold State.aBlocks
  rw [← State.noteABlock]
  simp only [gate_noteABlock, hg]

/-- The cell of a settled edge is a glitch of Table 1-2 (R4). -/
def Gate.glitchAt (g : Gate) (x : Beam) (blocks : Bool) : Prop := glitchCells.contains (g.number, edgeColumn x blocks) = true

/-- A glitch as A blocks notes its time and ends the grace all the same (R4, R16, R27). -/
theorem aBlocks_glitch {s : State} {i : LaneIdx} (hc : (s.lane i).gate.glitchAt .a true) :
    s.aBlocks i = (s.noteABlock i).count i .glitches := by
  unfold State.aBlocks
  rw [← State.noteABlock]
  dsimp only
  rw [gate_noteABlock]
  split
  · next h => rw [h] at hc; cases hc
  · next h => rw [h] at hc; cases hc
  · next h => rw [h] at hc; cases hc
  · rfl

theorem aClears_glitch {s : State} {i : LaneIdx} (hc : (s.lane i).gate.glitchAt .a false) : s.aClears i = s.count i .glitches := by
  unfold State.aClears
  split
  case h_6 => rfl
  all_goals next h => rw [h] at hc; cases hc

theorem bBlocks_glitch {s : State} {i : LaneIdx} (hc : (s.lane i).gate.glitchAt .b true) : s.bBlocks i = s.count i .glitches := by
  unfold State.bBlocks
  split
  case h_4 => rfl
  all_goals next h => rw [h] at hc; cases hc

theorem bClears_glitch {s : State} {i : LaneIdx} (hc : (s.lane i).gate.glitchAt .b false) : s.bClears i = s.count i .glitches := by
  unfold State.bClears
  split
  case h_6 => rfl
  all_goals next h => rw [h] at hc; cases hc

/-! ## A withdrawn item and a reverse transit -/

theorem bounceForward_eq (s : State) (i : LaneIdx) (it : FwdItem) (g : Gate) :
    s.bounceForward i it g =
      (s.modLane i (fun l => { l with gate := g, counters := l.counters.raise .bounces })).returnCode i it := by
  unfold State.bounceForward State.setGate State.count
  rw [modLane_modLane]

/-- A withdrawn item with one code and its head not lost gives the code back; an early hold of 0 ms makes it a stray read (R26, R28). -/
theorem returnCode_noHold {s : State} {i : LaneIdx} {it : FwdItem} {c : Code} (hc : it.code = .one c) (hl : it.headLost = false)
    (h0 : (s.lane i).cfg.earlyHold = 0) : s.returnCode i it = s.count i .strayReads := by
  simp only [State.returnCode, hc, hl, State.toEarlyHold, h0, if_true, Bool.false_eq_true, if_false]

theorem returnCode_held {s : State} {i : LaneIdx} {it : FwdItem} {c : Code} (hc : it.code = .one c) (hl : it.headLost = false)
    (h0 : 0 < (s.lane i).cfg.earlyHold) (he : (s.lane i).early = none) :
    s.returnCode i it = s.modLane i (fun l => { l with early := some ⟨c, s.now⟩ }) := by
  simp only [State.returnCode, hc, hl, State.toEarlyHold, Nat.ne_of_gt h0, he, Bool.false_eq_true, if_false]

theorem returnCode_discarded {s : State} {i : LaneIdx} {it : FwdItem} (h : (∀ c, it.code ≠ .one c) ∨ it.headLost = true) :
    s.returnCode i it = s := by
  unfold State.returnCode
  split
  · next c hc =>
    rcases h with h | h
    · exact absurd hc (h c)
    · rw [if_pos h]
  · rfl

/-- The change of a record in an OPEN or DRAINING drop as one change of the drop (R99). -/
theorem modCounting_eq (s : State) (i : LaneIdx) (f : DropRec → DropRec) :
    s.modCounting i f = s.modLane i (fun l => { l with
      drop := if (s.lane i).counting then l.drop.map (fun d => { d with record := f d.record }) else l.drop }) := by
  refine modLane_congr ?_
  cases (s.lane i).counting <;> rfl

/-- A reverse transit: counted and journalled, then tallied in an OPEN or DRAINING drop as it leaves accumulation (R11, R45, R46). -/
theorem reverseCompletes_eq (s : State) (i : LaneIdx) (seen : Nat) :
    s.reverseCompletes i seen = (((s.modLane i (fun l => { l with gate := .idle, counters := l.counters.raise .reverse })).journalWrite i
      (.reverse (s.now - seen))).modLane i (fun l => { l with
        drop := if (s.lane i).counting then l.drop.map (fun d => { d with record := { d.record with
          reverse := raiseTally d.record.reverse } }) else l.drop,
        occupancy := l.occupancy - 1, latch := l.latch && decide (releaseAt l.cfg.capacity < l.occupancy - 1) })) := by
  have counting : (((s.modLane i (fun l => { l with gate := .idle, counters := l.counters.raise .reverse })).journalWrite i
      (.reverse (s.now - seen))).lane i).counting = (s.lane i).counting := by
    rw [lane_journalWrite_same, lane_modLane_same]; rfl
  unfold State.reverseCompletes State.setGate State.count State.leaveAccumulation
  dsimp only
  rw [modLane_modLane, modCounting_eq, modLane_modLane, counting]
  rfl

/-! ## The four edges of Table 1-2 as taken -/

theorem exec_aBlocks {s : State} {i : LaneIdx} {t : Nat} (hr : s.rstHeld = false) (hg : (s.lane i).gate.counting = true)
    (hs : (s.lane i).beamA.settled = false) (hh : (s.lane i).beamA.hold = some t) (hn : t + 3 ≤ s.now) :
    exec (.beamEdge i .a) s = .next (finish (((s.modLane i (fun l => { l with
      beamA := { l.beamA with settled := true, hold := none }, stuckA := some s.now })).aBlocks i).quietTest i)) := by
  rw [exec_beamEdge_counting (x := .a) hr hg hh hn, edgeSettled_aBlocks hs]
  simp only [Lane.beam, hs]
  rfl

theorem exec_aClears {s : State} {i : LaneIdx} {t : Nat} (hr : s.rstHeld = false) (hg : (s.lane i).gate.counting = true)
    (hs : (s.lane i).beamA.settled = true) (hh : (s.lane i).beamA.hold = some t) (hn : t + 3 ≤ s.now) :
    exec (.beamEdge i .a) s = .next (finish (((s.modLane i (fun l => { l with
      beamA := { l.beamA with settled := false, hold := none }, stuckA := none })).aClears i).quietTest i)) := by
  rw [exec_beamEdge_counting (x := .a) hr hg hh hn, edgeSettled_aClears hs]
  simp only [Lane.beam, hs]
  rfl

theorem exec_bBlocks {s : State} {i : LaneIdx} {t : Nat} (hr : s.rstHeld = false) (hg : (s.lane i).gate.counting = true)
    (hs : (s.lane i).beamB.settled = false) (hh : (s.lane i).beamB.hold = some t) (hn : t + 3 ≤ s.now) :
    exec (.beamEdge i .b) s = .next (finish (((s.modLane i (fun l => { l with
      beamB := { l.beamB with settled := true, hold := none }, stuckB := some s.now })).bBlocks i).quietTest i)) := by
  rw [exec_beamEdge_counting (x := .b) hr hg hh hn, edgeSettled_bBlocks hs]
  simp only [Lane.beam, hs]
  rfl

theorem exec_bClears {s : State} {i : LaneIdx} {t : Nat} (hr : s.rstHeld = false) (hg : (s.lane i).gate.counting = true)
    (hs : (s.lane i).beamB.settled = true) (hh : (s.lane i).beamB.hold = some t) (hn : t + 3 ≤ s.now) :
    exec (.beamEdge i .b) s = .next (finish (((s.modLane i (fun l => { l with
      beamB := { l.beamB with settled := false, hold := none }, stuckB := none })).bClears i).quietTest i)) := by
  rw [exec_beamEdge_counting (x := .b) hr hg hh hn, edgeSettled_bClears hs]
  simp only [Lane.beam, hs]
  rfl

end Sys2Proof.Machine
end

section
/-! SUPPORT. What Table 1-2 speaks of in a lane, as one record: the gate's place in Table 1-1 and the four counters of the gate, with the
fields that no cell changes. One lemma for each operation of the gate gives the record after it. -/

namespace Sys2Proof.Machine

/-- What Table 1-2 says of a lane: its gate by its place, the four counters of the gate, and what every cell leaves as it is. -/
structure EdgeView where
  gate : Nat
  forward : Counter
  reverse : Counter
  bounces : Counter
  glitches : Counter
  beamA : Debouncer
  beamB : Debouncer
  stuckA : Option Nat
  stuckB : Option Nat
  takeoff : Debouncer
  reject : Debouncer
  head : HeadState
  lastFault : Nat
  measure : Option Latest
  headRx : Receiver

/-- A lane as Table 1-2 sees it. -/
def Lane.edgeView (l : Lane) : EdgeView :=
  { gate := l.gate.number, forward := l.counters.forward, reverse := l.counters.reverse, bounces := l.counters.bounces,
    glitches := l.counters.glitches, beamA := l.beamA, beamB := l.beamB, stuckA := l.stuckA, stuckB := l.stuckB, takeoff := l.takeoff,
    reject := l.reject, head := l.head, lastFault := l.lastFault, measure := l.measure, headRx := l.headRx }

/-- The lane of a part as Table 1-2 sees it. -/
def State.edgeView (s : State) (i : LaneIdx) : EdgeView := (s.lane i).edgeView

/-- Table 1-2 with its marked cells, applied to a lane. -/
def EdgeView.afterTable (v : EdgeView) (x : Beam) (blocks : Bool) : EdgeView :=
  { v with
    gate := tableAfter v.gate x blocks, forward := v.forward.afterEdge forwardCells v.gate x blocks,
    reverse := v.reverse.afterEdge reverseCells v.gate x blocks, bounces := v.bounces.afterEdge bounceCells v.gate x blocks,
    glitches := v.glitches.afterEdge glitchCells v.gate x blocks }

/-! ## Operations that Table 1-2 does not see -/

/-- A change of a lane that leaves every field of the view. -/
theorem edgeView_modLane_same {s : State} {i : LaneIdx} {f : Lane → Lane} (h : ∀ l, (f l).edgeView = l.edgeView) :
    (s.modLane i f).edgeView i = s.edgeView i := by
  rw [State.edgeView, lane_modLane_same, h]; rfl

theorem edgeView_itemPath {i : LaneIdx} {s t : State} (h : ItemPath i s t) : t.edgeView i = s.edgeView i := by
  simp only [State.edgeView, Lane.edgeView, h.gate, h.forward, h.reverse, h.bounces, h.glitches, h.beamA, h.beamB, h.stuckA, h.stuckB,
    h.takeoff, h.reject, h.head, h.lastFault, h.measure, h.headRx]

theorem edgeView_drainPath {i : LaneIdx} {s t : State} (h : DrainPath s t) : t.edgeView i = s.edgeView i := by
  obtain ⟨rejects, drop, journal, e⟩ := h i
  rw [State.edgeView, e]; rfl

@[simp] theorem edgeView_quietTest (s : State) (i : LaneIdx) : (s.quietTest i).edgeView i = s.edgeView i :=
  edgeView_drainPath (drainPath_quietTest s i)

@[simp] theorem edgeView_finish (s : State) (i : LaneIdx) : (finish s).edgeView i = s.edgeView i := by
  rw [State.edgeView, lane_finish]; rfl

@[simp] theorem edgeView_endGrace (s : State) (i : LaneIdx) : (s.endGrace i).edgeView i = s.edgeView i :=
  (edgeView_itemPath (itemPath_endGrace i s)).trans (edgeView_modLane_same (fun _ => rfl))

@[simp] theorem edgeView_noteABlock (s : State) (i : LaneIdx) : (s.noteABlock i).edgeView i = s.edgeView i :=
  (edgeView_endGrace _ i).trans (edgeView_modLane_same (fun _ => rfl))

@[simp] theorem edgeView_toEarlyHold (s : State) (i : LaneIdx) (c : Code) : (s.toEarlyHold i c).edgeView i = s.edgeView i := by
  have stray : ∀ t : State, (t.count i .strayReads).edgeView i = t.edgeView i := fun _ => edgeView_modLane_same (fun _ => rfl)
  have hold : (s.modLane i (fun l => { l with early := some ⟨c, s.now⟩ })).edgeView i = s.edgeView i := edgeView_modLane_same (fun _ => rfl)
  unfold State.toEarlyHold
  dsimp only
  split
  · exact stray s
  · split
    · split
      · exact hold
      · exact (stray _).trans hold
    · exact hold

@[simp] theorem edgeView_returnCode (s : State) (i : LaneIdx) (it : FwdItem) : (s.returnCode i it).edgeView i = s.edgeView i := by
  unfold State.returnCode
  split
  · split
    · rfl
    · exact edgeView_toEarlyHold s i _
  · rfl

/-! ## Operations that Table 1-2 sees -/

@[simp] theorem edgeView_setGate (s : State) (i : LaneIdx) (g : Gate) :
    (s.setGate i g).edgeView i = { s.edgeView i with gate := g.number } := by
  rw [State.edgeView, State.setGate, lane_modLane_same]; rfl

@[simp] theorem edgeView_count_forward (s : State) (i : LaneIdx) :
    (s.count i .forward).edgeView i = { s.edgeView i with forward := (s.edgeView i).forward.raise } := by
  rw [State.edgeView, State.count, lane_modLane_same]; rfl

@[simp] theorem edgeView_count_reverse (s : State) (i : LaneIdx) :
    (s.count i .reverse).edgeView i = { s.edgeView i with reverse := (s.edgeView i).reverse.raise } := by
  rw [State.edgeView, State.count, lane_modLane_same]; rfl

@[simp] theorem edgeView_count_bounces (s : State) (i : LaneIdx) :
    (s.count i .bounces).edgeView i = { s.edgeView i with bounces := (s.edgeView i).bounces.raise } := by
  rw [State.edgeView, State.count, lane_modLane_same]; rfl

@[simp] theorem edgeView_count_glitches (s : State) (i : LaneIdx) :
    (s.count i .glitches).edgeView i = { s.edgeView i with glitches := (s.edgeView i).glitches.raise } := by
  rw [State.edgeView, State.count, lane_modLane_same]; rfl

@[simp] theorem edgeView_bounceForward (s : State) (i : LaneIdx) (it : FwdItem) (g : Gate) :
    (s.bounceForward i it g).edgeView i = { s.edgeView i with gate := g.number, bounces := (s.edgeView i).bounces.raise } := by
  simp only [State.bounceForward, edgeView_returnCode, edgeView_count_bounces, edgeView_setGate]

@[simp] theorem edgeView_complete (s : State) (i : LaneIdx) (it : FwdItem) (g : Gate) :
    (s.complete i it g).edgeView i = { s.edgeView i with gate := g.number, forward := (s.edgeView i).forward.raise } := by
  have counted : ∀ c : Bool, (if c then ((s.setGate i g).count i .forward).count i .longItems else (s.setGate i g).count i .forward).edgeView i =
      { s.edgeView i with gate := g.number, forward := (s.edgeView i).forward.raise } := by
    have moved : ((s.setGate i g).count i .forward).edgeView i =
        { s.edgeView i with gate := g.number, forward := (s.edgeView i).forward.raise } := by
      rw [edgeView_count_forward, edgeView_setGate]
    have long : (((s.setGate i g).count i .forward).count i .longItems).edgeView i = ((s.setGate i g).count i .forward).edgeView i :=
      edgeView_modLane_same (fun _ => rfl)
    intro c
    cases c
    · exact moved
    · exact long.trans moved
  unfold State.complete
  dsimp only
  split
  · exact (edgeView_modLane_same (by intro; rfl)).trans (counted it.long)
  · exact (edgeView_itemPath (itemPath_handOver i _ _ _)).trans (counted it.long)

@[simp] theorem edgeView_reverseCompletes (s : State) (i : LaneIdx) (seen : Nat) :
    (s.reverseCompletes i seen).edgeView i = { s.edgeView i with gate := 0, reverse := (s.edgeView i).reverse.raise } := by
  rw [reverseCompletes_eq, edgeView_modLane_same (by intro; rfl), edgeView_itemPath (itemPath_journalWrite i _ _), State.edgeView,
    lane_modLane_same]
  rfl

@[simp] theorem edgeView_closeWindow (s : State) (i : LaneIdx) (it : FwdItem) :
    (s.closeWindow i it).edgeView i = { s.edgeView i with gate := 3 } := by
  rw [State.edgeView, State.closeWindow, lane_modLane_same]; rfl

/-! ## The edges -/

/-- Table 1-2 from a lane whose gate is known. -/
theorem afterTable_of_gate {s : State} {i : LaneIdx} {g : Gate} (hg : (s.lane i).gate = g) (x : Beam) (blocks : Bool) :
    (s.edgeView i).afterTable x blocks = { s.edgeView i with
      gate := tableAfter g.number x blocks, forward := (s.edgeView i).forward.afterEdge forwardCells g.number x blocks,
      reverse := (s.edgeView i).reverse.afterEdge reverseCells g.number x blocks,
      bounces := (s.edgeView i).bounces.afterEdge bounceCells g.number x blocks,
      glitches := (s.edgeView i).glitches.afterEdge glitchCells g.number x blocks } := by
  have hv : (s.edgeView i).gate = g.number := congrArg Gate.number hg
  rw [EdgeView.afterTable, hv]

/-- The glitch cells of Table 1-2 keep their row and mark no other counter (R4). -/
theorem glitchCells_keep : ∀ cell ∈ glitchCells, ((gateTable[cell.1]?.getD [])[cell.2]?).getD 9 = cell.1 ∧
    forwardCells.contains cell = false ∧ reverseCells.contains cell = false ∧ bounceCells.contains cell = false := by
  decide

/-- In a glitch cell Table 1-2 keeps the gate and counts a glitch (R4). -/
theorem afterTable_glitch {s : State} {i : LaneIdx} {x : Beam} {blocks : Bool} (hc : (s.lane i).gate.glitchAt x blocks) :
    (s.edgeView i).afterTable x blocks = { s.edgeView i with glitches := (s.edgeView i).glitches.raise } := by
  obtain ⟨row, forward, reverse, bounces⟩ := glitchCells_keep _ (List.contains_iff_mem.1 hc)
  have glitches : glitchCells.contains ((s.lane i).gate.number, edgeColumn x blocks) = true := hc
  rw [afterTable_of_gate rfl, show tableAfter (s.lane i).gate.number x blocks = (s.lane i).gate.number from row]
  simp only [Counter.afterEdge, forward, reverse, bounces, glitches, Bool.false_eq_true, if_false, if_true]
  rfl

theorem edgeView_aBlocks {s : State} {i : LaneIdx} (hg : (s.lane i).gate.counting = true) :
    (s.aBlocks i).edgeView i = (s.edgeView i).afterTable .a true := by
  have glitch : (s.lane i).gate.glitchAt .a true → (s.aBlocks i).edgeView i = (s.edgeView i).afterTable .a true := fun hc => by
    rw [aBlocks_glitch hc, edgeView_count_glitches, edgeView_noteABlock, afterTable_glitch hc]
  cases h : (s.lane i).gate
  case idle =>
    rw [aBlocks_idle h, afterTable_of_gate h, ← edgeView_noteABlock s i, State.edgeView, lane_modLane_same]
    rfl
  case exit it =>
    rw [aBlocks_exit h, afterTable_of_gate h, ← edgeView_noteABlock s i, State.edgeView, lane_modLane_same]
    rfl
  case back seen =>
    rw [aBlocks_back h, afterTable_of_gate h, edgeView_setGate, edgeView_noteABlock]
    rfl
  case fault | reset => rw [h] at hg; cases hg
  all_goals exact glitch (by rw [h]; rfl)

theorem edgeView_aClears {s : State} {i : LaneIdx} (hg : (s.lane i).gate.counting = true) :
    (s.aClears i).edgeView i = (s.edgeView i).afterTable .a false := by
  have glitch : (s.lane i).gate.glitchAt .a false → (s.aClears i).edgeView i = (s.edgeView i).afterTable .a false := fun hc => by
    rw [aClears_glitch hc, edgeView_count_glitches, afterTable_glitch hc]
  cases h : (s.lane i).gate
  case enter it => simp only [State.aClears, h, edgeView_bounceForward, afterTable_of_gate h]; rfl
  case span it => simp only [State.aClears, h, edgeView_closeWindow, afterTable_of_gate h]; rfl
  case exitEnter x e => simp only [State.aClears, h, edgeView_bounceForward, afterTable_of_gate h]; rfl
  case backSpan seen => simp only [State.aClears, h, edgeView_setGate, afterTable_of_gate h]; rfl
  case backExit seen => simp only [State.aClears, h, edgeView_reverseCompletes, afterTable_of_gate h]; rfl
  case fault | reset => rw [h] at hg; cases hg
  all_goals exact glitch (by rw [h]; rfl)

theorem edgeView_bBlocks {s : State} {i : LaneIdx} (hg : (s.lane i).gate.counting = true) :
    (s.bBlocks i).edgeView i = (s.edgeView i).afterTable .b true := by
  have glitch : (s.lane i).gate.glitchAt .b true → (s.bBlocks i).edgeView i = (s.edgeView i).afterTable .b true := fun hc => by
    rw [bBlocks_glitch hc, edgeView_count_glitches, afterTable_glitch hc]
  cases h : (s.lane i).gate
  case idle => simp only [State.bBlocks, h, edgeView_setGate, afterTable_of_gate h]; rfl
  case enter it => simp only [State.bBlocks, h, edgeView_setGate, afterTable_of_gate h]; rfl
  case backExit seen => simp only [State.bBlocks, h, edgeView_setGate, afterTable_of_gate h]; rfl
  case fault | reset => rw [h] at hg; cases hg
  all_goals exact glitch (by rw [h]; rfl)

theorem edgeView_bClears {s : State} {i : LaneIdx} (hg : (s.lane i).gate.counting = true) :
    (s.bClears i).edgeView i = (s.edgeView i).afterTable .b false := by
  have glitch : (s.lane i).gate.glitchAt .b false → (s.bClears i).edgeView i = (s.edgeView i).afterTable .b false := fun hc => by
    rw [bClears_glitch hc, edgeView_count_glitches, afterTable_glitch hc]
  cases h : (s.lane i).gate
  case span it => simp only [State.bClears, h, edgeView_setGate, afterTable_of_gate h]; rfl
  case exit it => simp only [State.bClears, h, edgeView_complete, afterTable_of_gate h]; rfl
  case exitEnter x e => simp only [State.bClears, h, edgeView_complete, afterTable_of_gate h]; rfl
  case back seen => simp only [State.bClears, h, edgeView_count_bounces, edgeView_setGate, afterTable_of_gate h]; rfl
  case backSpan seen => simp only [State.bClears, h, edgeView_setGate, afterTable_of_gate h]; rfl
  case fault | reset => rw [h] at hg; cases hg
  all_goals exact glitch (by rw [h]; rfl)

/-- Every cell of Table 1-2 with its marked counters (R3 to R11). -/
theorem edgeView_countingEdge {s : State} {i : LaneIdx} (x : Beam) (blocks : Bool) (hg : (s.lane i).gate.counting = true) :
    (s.countingEdge i x blocks).edgeView i = (s.edgeView i).afterTable x blocks := by
  cases x <;> cases blocks
  · exact edgeView_aClears hg
  · exact edgeView_aBlocks hg
  · exact edgeView_bClears hg
  · exact edgeView_bBlocks hg

/-- The settling of a beam changes nothing that Table 1-2 sees but beams and stuck timers (R1, R13). -/
theorem edgeView_edgeSettled (s : State) (i : LaneIdx) (x : Beam) :
    (s.edgeSettled i x).edgeView i = { s.edgeView i with
      beamA := ((s.edgeSettled i x).lane i).beamA, beamB := ((s.edgeSettled i x).lane i).beamB,
      stuckA := ((s.edgeSettled i x).lane i).stuckA, stuckB := ((s.edgeSettled i x).lane i).stuckB } := by
  rw [State.edgeView, State.edgeSettled, lane_modLane_same]
  cases x <;> rfl

/-- The beam that settles takes its new level and starts or stops its stuck timer (R1, R13). -/
theorem beam_edgeSettled_same (s : State) (i : LaneIdx) (x : Beam) :
    ((s.edgeSettled i x).lane i).beam x = ((s.lane i).beam x).settle ∧
    ((s.edgeSettled i x).lane i).stuck x = if !((s.lane i).beam x).settled then some s.now else none := by
  rw [State.edgeSettled, lane_modLane_same]
  cases x <;> exact ⟨rfl, rfl⟩

/-- The other beam keeps its level and its timer. -/
theorem beam_edgeSettled_ne (s : State) (i : LaneIdx) {x y : Beam} (h : y ≠ x) :
    ((s.edgeSettled i x).lane i).beam y = (s.lane i).beam y ∧ ((s.edgeSettled i x).lane i).stuck y = (s.lane i).stuck y := by
  rw [State.edgeSettled, lane_modLane_same]
  cases x <;> cases y
  · exact absurd rfl h
  · exact ⟨rfl, rfl⟩
  · exact ⟨rfl, rfl⟩
  · exact absurd rfl h

/-- An edge in a counting state, as Table 1-2 sees the lane before and after (R3). -/
theorem exec_beamEdge_edgeView {s : State} {i : LaneIdx} {x : Beam} {t : Nat} (hr : s.rstHeld = false)
    (hg : (s.lane i).gate.counting = true) (hh : ((s.lane i).beam x).hold = some t) (hn : t + 3 ≤ s.now) :
    ∃ u, exec (.beamEdge i x) s = .next u ∧
      u.edgeView i = ((s.edgeSettled i x).edgeView i).afterTable x (!((s.lane i).beam x).settled) := by
  refine ⟨_, exec_beamEdge_counting hr hg hh hn, ?_⟩
  rw [edgeView_finish, edgeView_quietTest, edgeView_countingEdge _ _ (by rw [gate_edgeSettled]; exact hg)]

end Sys2Proof.Machine
end

section
/-! SUPPORT. A beam fault: when the stuck limit is reached, which beams the fault names, what abandoning leaves of the lane, and the
declaration and the clear as one change of the lane with its entries and notices (R13 to R15). The long limit at the item at A (R12). -/

namespace Sys2Proof.Machine

/-! ## The stuck limit -/

/-- In a counting state the stuck limit is reached once the timer has run for it (R13). -/
theorem stuckReached_iff {l : Lane} (x : Beam) (now : Nat) (hg : l.gate.counting = true) :
    l.stuckReached x now = true ↔ ∃ t, l.stuck x = some t ∧ t + l.cfg.stuckLimit * 1000 ≤ now := by
  unfold Lane.stuckReached
  cases l.stuck x with
  | none => simp
  | some t => simp [hg]

theorem stuckBeams_eq_both_iff (l : Lane) (x : Beam) (now : Nat) :
    l.stuckBeams x now = .both ↔ ∀ y, l.stuckReached y now = true := by
  have every : (∀ y, l.stuckReached y now = true) ↔ (l.stuckReached .a now && l.stuckReached .b now) = true := by
    rw [Bool.and_eq_true]
    exact ⟨fun h => ⟨h .a, h .b⟩, fun h y => match y with | .a => h.1 | .b => h.2⟩
  rw [every]
  unfold Lane.stuckBeams
  split
  · next h => exact iff_of_true rfl h
  · next h => exact iff_of_false (by cases x <;> exact nofun) h

theorem stuckBeams_of_ne_both (l : Lane) (x : Beam) (now : Nat) :
    l.stuckBeams x now ≠ .both → l.stuckBeams x now = match x with | .a => .a | .b => .b := by
  intro h
  by_cases both : (l.stuckReached .a now && l.stuckReached .b now) = true
  · exact absurd (if_pos both) h
  · exact if_neg both

/-! ## Abandoned items -/

/-- The lane after its items are abandoned: entries in the journal and the abandoned counter raised for each, the rest as it was (R14). -/
theorem lane_abandoning (s : State) (i : LaneIdx) (entries : List JournalBody) :
    ∃ journal, (s.abandoning i entries).lane i = { s.lane i with
      journal := journal,
      counters := { (s.lane i).counters with abandoned := entries.foldl (fun c _ => c.raise) (s.lane i).counters.abandoned } } := by
  induction entries generalizing s with
  | nil => exact ⟨_, rfl⟩
  | cons e entries ih =>
    obtain ⟨journal, h⟩ := ih ((s.journalWrite i e).modLane i (fun l => { l with counters := l.counters.raise .abandoned }))
    refine ⟨journal, h.trans ?_⟩
    rw [lane_modLane_same, lane_journalWrite_same]
    rfl

/-- Every held item counts as abandoned: none in IDLE, two in EXIT_ENTER, one elsewhere (R14). -/
theorem foldl_raise_abandonedEntries (g : Gate) (now : Nat) (c : Counter) :
    g.counting = true → (abandonedEntries g now).foldl (fun c _ => c.raise) c =
      (match g with | .idle => c | .exitEnter _ _ => c.raise.raise | _ => c.raise) := by
  intro hg
  cases g
  case fault | reset => cases hg
  all_goals rfl

/-- A lane as its beam fault is declared, its items abandoned: the drop flagged, the grace of an item in EXIT ended (R13, R14). -/
def Lane.faulted (l : Lane) (beams : FaultBeams) (now : Nat) : Lane :=
  { l with
    gate := .fault beams (l.faultTimer now), grace := l.graceAfterAbandon, stuckA := none, stuckB := none,
    drop := if l.counting then l.drop.map (fun d => { d with record := { d.record with gateFault := true } }) else l.drop }

/-- A beam fault as one change of the lane between the entries of the abandoned items and the entry of the fault (R14). -/
theorem declareFault_eq (s : State) (i : LaneIdx) (beams : FaultBeams) :
    s.declareFault i beams = ((((s.abandoning i (abandonedEntries (s.lane i).gate s.now)).modLane i (fun l => l.faulted beams s.now)).journalWrite
      i (.fault (.beamFault beams))).post (.beamFault i beams (abandonedEntries (s.lane i).gate s.now).length)) := by
  obtain ⟨journal, lane⟩ := lane_abandoning s i (abandonedEntries (s.lane i).gate s.now)
  unfold State.declareFault
  dsimp only
  rw [modCounting_eq, abandonItems_eq, modLane_modLane, lane_modLane_same, abandoned_eq]
  refine congrArg (fun u : State => (u.journalWrite i _).post _) (modLane_congr ?_)
  rw [lane]
  rfl

/-- The lane after a beam fault, whatever its entries: occupancy and all else stay (R14). -/
theorem lane_declareFault (s : State) (i : LaneIdx) (beams : FaultBeams) :
    ∃ journal, (s.declareFault i beams).lane i = { (s.lane i).faulted beams s.now with
      journal := journal,
      counters := { (s.lane i).counters with
        abandoned := (abandonedEntries (s.lane i).gate s.now).foldl (fun c _ => c.raise) (s.lane i).counters.abandoned } } := by
  obtain ⟨_, lane⟩ := lane_abandoning s i (abandonedEntries (s.lane i).gate s.now)
  rw [declareFault_eq, lane_post, lane_journalWrite_same, lane_modLane_same, lane]
  exact ⟨_, rfl⟩

/-! ## The commands -/

theorem exec_stuckLimit {s : State} {i : LaneIdx} {x : Beam} {t : Nat} (hr : s.rstHeld = false) (hg : (s.lane i).gate.counting = true)
    (hs : (s.lane i).stuck x = some t) (hn : t + (s.lane i).cfg.stuckLimit * 1000 ≤ s.now) :
    exec (.stuckLimit i x) s = .next (finish (s.declareFault i ((s.lane i).stuckBeams x s.now))) := by
  change event _ s = _
  rw [event_running _ hr, if_pos ((stuckReached_iff x s.now hg).2 ⟨t, hs, hn⟩)]

theorem exec_faultClear {s : State} {i : LaneIdx} {beams : FaultBeams} {t : Nat} (hr : s.rstHeld = false)
    (hg : (s.lane i).gate = .fault beams (some t)) (hn : t + 2000 ≤ s.now) :
    exec (.faultClear i) s = .next (finish ((s.clearFault i).quietTest i)) := by
  change event _ s = _
  have reached : (s.lane i).faultClearReached s.now = true := by
    simp only [Lane.faultClearReached, hg, Config.faultClearMs, hn, decide_true]
  rw [event_running _ hr, if_pos reached]

/-- The lane after a fault has cleared (R15). -/
theorem lane_clearFault (s : State) (i : LaneIdx) :
    (s.clearFault i).lane i = { s.lane i with
      gate := .idle, stuckA := none, stuckB := none, journal := ((s.lane i).journal.write i s.stamp (.fault .beamClear)).1 } := by
  unfold State.clearFault
  dsimp only
  rw [lane_post, lane_journalWrite_same, lane_modLane_same]
  rfl

/-- The newest entry of a journal just written (R165). -/
theorem getLast?_write (j : Journal) (i : LaneIdx) (stamp : Stamp) (body : JournalBody) :
    (j.write i stamp body).1.entries.getLast? = some ⟨j.nextSeq, stamp, body⟩ := by
  rw [write_entries]
  exact List.getLast?_concat

/-! ## The long limit -/

/-- LONG_LIMIT at the item that holds A, when its long timer has reached the limit and its flag is clear (R12). -/
theorem exec_longLimit {s : State} {i : LaneIdx} {it : FwdItem} {t : Nat} (hr : s.rstHeld = false) (ht : it.longTimer = some t)
    (hl : it.long = false) (hn : t + (s.lane i).cfg.longLimit ≤ s.now) (ha : (s.lane i).gate.atA = some it) :
    exec (.longLimit i) s = .next (finish (s.modLane i (fun l => { l with gate := l.gate.setLong }))) := by
  change event _ s = _
  have reached : (s.lane i).longReached s.now = true := by
    simp only [Lane.longReached, ha, ht, hl, hn, Bool.not_false, decide_true, Bool.and_self]
  rw [event_running _ hr, if_pos reached]

/-- The change of a lane's gate, once the gate is known. -/
theorem modLane_setLong {s : State} {i : LaneIdx} {g : Gate} (hg : (s.lane i).gate = g) :
    s.modLane i (fun l => { l with gate := l.gate.setLong }) = s.modLane i (fun l => { l with gate := g.setLong }) :=
  modLane_congr (by rw [hg])

end Sys2Proof.Machine
end

section
/-! SUPPORT. What the LANE reads answer (R42, R47, R170, R172): a lane named by its number, the entries that fit a reply, and the journal read. -/

namespace Sys2Proof.Machine

/-- A request that leaves this answer with status OK is taken with its reply (R176). -/
theorem request_ok {c : Instr} {f : Frame} {s u : State} {act : State → Answered} {r : Result} (hs : s.ready)
    (hf : encodeRequest c = some f) (ha : act s = ⟨u, .ok, r⟩) :
    request c act id s = .next (finish (u.replied f.kind f.tag .ok r)) := by
  rw [request_ready act id hs hf, takeRequest_ok (by rw [ha]), ha]
  rfl

@[simp] theorem laneOf_succ (i : LaneIdx) : laneOf (i.val + 1) = some i := by
  have inRange : 1 ≤ i.val + 1 ∧ i.val + 1 ≤ 6 := by omega
  rw [laneOf, dif_pos inRange]
  rfl

/-! ## The entries that fit -/

/-- The bytes of journal entries one after another (Table 10-7). -/
def entriesSize (es : List JournalEntry) : Nat := (es.map (fun e => e.bytes.length)).sum

@[simp] theorem entriesSize_nil : entriesSize [] = 0 := rfl
@[simp] theorem entriesSize_cons (e : JournalEntry) (es : List JournalEntry) :
    entriesSize (e :: es) = e.bytes.length + entriesSize es := by
  simp [entriesSize]

theorem fitting_prefix (room : Nat) (es : List JournalEntry) : fitting room es <+: es := by
  induction es generalizing room with
  | nil => exact List.nil_prefix
  | cons e es ih =>
    unfold fitting
    split
    · exact List.cons_prefix_cons.2 ⟨rfl, ih _⟩
    · exact List.nil_prefix

theorem entriesSize_fitting_le (room : Nat) (es : List JournalEntry) : entriesSize (fitting room es) ≤ room := by
  induction es generalizing room with
  | nil => exact Nat.zero_le _
  | cons e es ih =>
    unfold fitting
    split
    · next fits =>
      have rest := ih (room - e.bytes.length)
      rw [entriesSize_cons]
      omega
    · exact Nat.zero_le _

/-- One entry more would not fit (R185). -/
theorem fitting_maximal {room : Nat} {es : List JournalEntry} {e : JournalEntry} (h : fitting room es ++ [e] <+: es) :
    room < entriesSize (fitting room es ++ [e]) := by
  induction es generalizing room with
  | nil => simp [fitting] at h
  | cons e' es ih =>
    unfold fitting at h ⊢
    split
    · next fits =>
      rw [if_pos fits, List.cons_append] at h
      have rest := ih (List.cons_prefix_cons.1 h).2
      rw [List.cons_append, entriesSize_cons]
      omega
    · next tooLong =>
      rw [if_neg tooLong] at h
      have same : e = e' := (List.cons_prefix_cons.1 h).1
      rw [List.nil_append, entriesSize_cons, same]
      omega

/-! ## The journal as a read leaves it -/

theorem newest_eq (j : Journal) : j.newest = (j.entries.getLast?.map JournalEntry.seq).getD 0 := by
  unfold Journal.newest
  cases j.entries.getLast? <;> rfl

theorem oldest_eq (j : Journal) : j.oldest = (j.entries.head?.map JournalEntry.seq).getD 0 := by
  unfold Journal.oldest
  cases j.entries.head? <;> rfl

theorem unread_eq (j : Journal) :
    j.unread = if j.entries = [] then 0 else (j.entries.getLast?.map JournalEntry.seq).getD 0 - j.readMark := by
  rw [Journal.unread, newest_eq]
  simp only [List.isEmpty_iff]

/-- LANE.JOURNAL in range answers the entries that fit, with the marks of the journal as read (R170, R185). -/
theorem laneJournal_eq (s : State) (i : LaneIdx) {first count : Nat} (h1 : 1 ≤ count) (h6 : count ≤ 6) (hf : 1 ≤ first)
    (hm : first ≤ 281474976710655) :
    s.laneJournal (i.val + 1) first count =
      let es := (s.lane i).journal.select first count
      let j := (s.lane i).journal.read es
      ⟨s.modLane i (fun l => { l with journal := j }), .ok, .journal es j.oldest j.newest j.readMark j.unread⟩ := by
  have inRange : (within 1 6 count && within 1 Config.sequenceMax first) = true := by
    simp only [within, Bool.and_eq_true, decide_eq_true_eq]
    exact ⟨⟨h1, h6⟩, hf, hm⟩
  simp only [State.laneJournal, laneOf_succ, inRange, if_true]

/-! ## The replies -/

/-- A LANE.GET answered OK is taken with its reply (R42). -/
theorem exec_laneGet {s u : State} {tag : Byte} {lane : Nat} {clearPeak : Bool} {r : Result} (hs : s.ready)
    (ha : s.laneGet lane clearPeak = ⟨u, .ok, r⟩) :
    exec (.laneGet tag lane clearPeak) s = .next (finish (u.replied 0x13 tag .ok r)) :=
  request_ok (c := .laneGet tag lane clearPeak) (act := fun s => s.laneGet lane clearPeak) hs rfl ha

/-- A LANE.COUNTERS answered OK is taken with its reply (R172). -/
theorem exec_laneCounters {s u : State} {tag : Byte} {lane : Nat} {r : Result} (hs : s.ready)
    (ha : s.laneCounters lane = ⟨u, .ok, r⟩) : exec (.laneCounters tag lane) s = .next (finish (u.replied 0x15 tag .ok r)) :=
  request_ok (c := .laneCounters tag lane) (act := fun s => s.laneCounters lane) hs rfl ha

/-- A LANE.JOURNAL answered OK is taken with its reply (R170). -/
theorem exec_laneJournal {s u : State} {tag : Byte} {lane first count : Nat} {r : Result} (hs : s.ready)
    (ha : s.laneJournal lane first count = ⟨u, .ok, r⟩) :
    exec (.laneJournal tag lane first count) s = .next (finish (u.replied 0x14 tag .ok r)) :=
  request_ok (c := .laneJournal tag lane first count) (act := fun s => s.laneJournal lane first count) hs rfl ha

theorem laneGet_eq (s : State) (i : LaneIdx) (clearPeak : Bool) :
    s.laneGet (i.val + 1) clearPeak =
      ⟨if clearPeak then s.modLane i (fun l => { l with peak := l.occupancy }) else s, .ok, .lane ((s.lane i).view s.now)⟩ := by
  simp only [State.laneGet, laneOf_succ]

theorem laneCounters_eq (s : State) (i : LaneIdx) :
    s.laneCounters (i.val + 1) = ⟨s.modLane i (fun l => { l with counters := .zero }), .ok, .counters (s.lane i).counters⟩ := by
  simp only [State.laneCounters, laneOf_succ]

end Sys2Proof.Machine
end

section
/-! The statements about the counting gate and the LANE reads, settled. -/

namespace Sys2Proof.Machine

/-- The table and its counters at every settled edge (the first clause of O22). -/
theorem edge_follows_marked_table (s : State) (i : LaneIdx) (x : Beam) (t : Nat) (hr : s.rstHeld = false)
    (hg : (s.lane i).gate.counting = true) (hh : ((s.lane i).beam x).hold = some t) (hn : t + 3 ≤ s.now) :
    let g := (s.lane i).gate.number
    let up := !((s.lane i).beam x).settled
    ∃ u, exec (.beamEdge i x) s = .next u ∧ (u.lane i).gate.number = tableAfter g x up ∧
       (u.lane i).beam x = { (s.lane i).beam x with settled := up, hold := none } ∧
       (u.lane i).stuck x = (if up then some s.now else none) ∧
       (u.lane i).counters.forward = (s.lane i).counters.forward.afterEdge forwardCells g x up ∧
       (u.lane i).counters.reverse = (s.lane i).counters.reverse.afterEdge reverseCells g x up ∧
       (u.lane i).counters.bounces = (s.lane i).counters.bounces.afterEdge bounceCells g x up ∧
       (u.lane i).counters.glitches = (s.lane i).counters.glitches.afterEdge glitchCells g x up ∧
       (∀ y, y ≠ x → (u.lane i).beam y = (s.lane i).beam y ∧ (u.lane i).stuck y = (s.lane i).stuck y) ∧
       (u.lane i).takeoff = (s.lane i).takeoff ∧ (u.lane i).reject = (s.lane i).reject ∧ (u.lane i).head = (s.lane i).head ∧
       (u.lane i).lastFault = (s.lane i).lastFault ∧ (u.lane i).measure = (s.lane i).measure ∧ (u.lane i).headRx = (s.lane i).headRx := by
  obtain ⟨u, taken, view⟩ := exec_beamEdge_edgeView hr hg hh hn
  rw [edgeView_edgeSettled] at view
  obtain ⟨beamNow, stuckNow⟩ := beam_edgeSettled_same s i x
  have beam : ∀ y, (u.lane i).beam y = ((s.edgeSettled i x).lane i).beam y
    | .a => congrArg EdgeView.beamA view
    | .b => congrArg EdgeView.beamB view
  have stuck : ∀ y, (u.lane i).stuck y = ((s.edgeSettled i x).lane i).stuck y
    | .a => congrArg EdgeView.stuckA view
    | .b => congrArg EdgeView.stuckB view
  have others : ∀ y, y ≠ x → (u.lane i).beam y = (s.lane i).beam y ∧ (u.lane i).stuck y = (s.lane i).stuck y := fun y hy =>
    ⟨(beam y).trans (beam_edgeSettled_ne s i hy).1, (stuck y).trans (beam_edgeSettled_ne s i hy).2⟩
  exact ⟨u, taken, congrArg EdgeView.gate view, (beam x).trans beamNow, (stuck x).trans stuckNow,
    congrArg EdgeView.forward view, congrArg EdgeView.reverse view, congrArg EdgeView.bounces view, congrArg EdgeView.glitches view,
    others, congrArg EdgeView.takeoff view, congrArg EdgeView.reject view,
    congrArg EdgeView.head view, congrArg EdgeView.lastFault view, congrArg EdgeView.measure view, congrArg EdgeView.headRx view⟩

/-- Settles O22: the marked table by the view of the lane, then each cell by the equation of its edge. -/
theorem edgeFollowsTable : Obligations.EdgeFollowsTable := by
  refine ⟨edge_follows_marked_table, fun s i t hr hs hh hn => ?_, fun s i t hr hs hh hn => ?_, fun s i t hr hs hh hn => ?_,
    fun s i t hr hs hh hn => ?_⟩
  · intro taken noted opened
    let blocked := s.modLane i (fun l => { l with beamA := { l.beamA with settled := true, hold := none }, stuckA := some s.now })
    have gate : (blocked.lane i).gate = (s.lane i).gate := by rw [lane_modLane_same]
    have noted_eq : blocked.noteABlock i = noted := congrArg (State.endGrace · i) (modLane_modLane s i _ _)
    have edge : ∀ u, (s.lane i).gate.counting = true → blocked.aBlocks i = u → taken u := fun u hg e =>
      e ▸ exec_aBlocks hr hg hs hh hn
    refine ⟨fun h => ?_, fun it h => ?_, fun seen h => ?_, ?_⟩
    · exact edge _ (by rw [h]; rfl) (by rw [aBlocks_idle (gate.trans h), noted_eq]; rfl)
    · exact edge _ (by rw [h]; rfl) (by rw [aBlocks_exit (gate.trans h), noted_eq]; rfl)
    · exact edge _ (by rw [h]; rfl) (by rw [aBlocks_back (gate.trans h), noted_eq]; rfl)
    · rintro (⟨it, h⟩ | ⟨it, h⟩ | ⟨it, e, h⟩ | ⟨seen, h⟩ | ⟨seen, h⟩) <;>
        exact edge _ (by rw [h]; rfl) (by rw [aBlocks_glitch (by rw [gate, h]; rfl), noted_eq]; rfl)
  · intro taken cleared bounced withdrawn
    have gate : (cleared.lane i).gate = (s.lane i).gate := by rw [lane_modLane_same]
    have edge : ∀ u, (s.lane i).gate.counting = true → cleared.aClears i = u → taken u := fun u hg e =>
      e ▸ exec_aClears hr hg hs hh hn
    have withdraws : ∀ it g, (∀ u, (bounced g).returnCode i it = u → taken u) → withdrawn it g := fun it g cell => by
      have lane : (bounced g).lane i = _ := lane_modLane_same cleared i _
      have cfg : ((bounced g).lane i).cfg = (s.lane i).cfg := by rw [lane, lane_modLane_same]
      have early : ((bounced g).lane i).early = (s.lane i).early := by rw [lane, lane_modLane_same]
      refine ⟨fun c hc hl h0 => cell _ ?_, fun c hc hl h0 he => cell _ ?_, fun hd => cell _ (returnCode_discarded hd)⟩
      · exact returnCode_noHold hc hl (by rw [cfg]; exact h0)
      · exact returnCode_held hc hl (by rw [cfg]; exact h0) (early.trans he)
    refine ⟨fun it h => withdraws it _ fun u e => ?_, fun it e' h => withdraws e' _ fun u e => ?_, fun seen h => ?_, fun seen h => ?_, ?_⟩
    · exact edge u (by rw [h]; rfl) (by simp only [State.aClears, gate, h, bounceForward_eq]; exact e)
    · exact edge u (by rw [h]; rfl) (by simp only [State.aClears, gate, h, bounceForward_eq]; exact e)
    · exact edge _ (by rw [h]; rfl) (by simp only [State.aClears, gate, h]; rfl)
    · intro journalled
      have counting : (cleared.lane i).counting = (s.lane i).counting := by rw [lane_modLane_same]; rfl
      exact edge _ (by rw [h]; rfl) (by simp only [State.aClears, gate, h, reverseCompletes_eq, counting]; rfl)
    · rintro (h | ⟨it, h⟩ | ⟨seen, h⟩) <;>
        exact edge _ (by rw [h]; rfl) (by rw [aClears_glitch (by rw [gate, h]; rfl)]; rfl)
  · intro taken blocked
    have gate : (blocked.lane i).gate = (s.lane i).gate := by rw [lane_modLane_same]
    have edge : ∀ u, (s.lane i).gate.counting = true → blocked.bBlocks i = u → taken u := fun u hg e =>
      e ▸ exec_bBlocks hr hg hs hh hn
    refine ⟨fun h => ?_, fun seen h => ?_, ?_⟩
    · exact edge _ (by rw [h]; rfl) (by simp only [State.bBlocks, gate, h]; rfl)
    · exact edge _ (by rw [h]; rfl) (by simp only [State.bBlocks, gate, h]; rfl)
    · rintro (⟨it, h⟩ | ⟨it, h⟩ | ⟨it, e, h⟩ | ⟨seen, h⟩ | ⟨seen, h⟩) <;>
        exact edge _ (by rw [h]; rfl) (by rw [bBlocks_glitch (by rw [gate, h]; rfl)]; rfl)
  · intro taken cleared
    have gate : (cleared.lane i).gate = (s.lane i).gate := by rw [lane_modLane_same]
    have edge : ∀ u, (s.lane i).gate.counting = true → cleared.bClears i = u → taken u := fun u hg e =>
      e ▸ exec_bClears hr hg hs hh hn
    refine ⟨fun it h => ?_, fun seen h => ?_, fun seen h => ?_, ?_⟩
    · exact edge _ (by rw [h]; rfl) (by simp only [State.bClears, gate, h]; rfl)
    · exact edge _ (by rw [h]; rfl) (by simp only [State.bClears, gate, h, State.setGate, State.count, modLane_modLane])
    · exact edge _ (by rw [h]; rfl) (by simp only [State.bClears, gate, h]; rfl)
    · rintro (h | ⟨it, h⟩ | ⟨seen, h⟩) <;>
        exact edge _ (by rw [h]; rfl) (by rw [bClears_glitch (by rw [gate, h]; rfl)]; rfl)

/-- Settles O23: the three cells by their edges, none of which leaves the gate IDLE, and the long limit by the item at A. -/
theorem forwardItemAtGate : Obligations.ForwardItemAtGate := by
  refine ⟨fun s i t hr hg hw hs hh hn => ?_, fun s i it t hr => ⟨fun hg hs hh hn => ?_, fun hg hs hh hn => ?_⟩,
    fun s i it t hr ht hl hn => ⟨fun hg => ?_, fun hg => ?_, fun x hg => ?_⟩⟩
  · rw [exec_aBlocks hr (by rw [hg]; rfl) hs hh hn, aBlocks_idle (by rw [lane_modLane_same]; exact hg),
      noteABlock_of_none_waiting (by rw [lane_modLane_same]; exact hw), modLane_modLane, modLane_modLane,
      quietTest_of_gate_ne_idle (by rw [lane_modLane_same]; exact nofun)]
    rfl
  · rw [exec_bBlocks hr (by rw [hg]; rfl) hs hh hn]
    simp only [State.bBlocks, lane_modLane_same, hg, State.setGate, modLane_modLane, modLane_now]
    rw [quietTest_of_gate_ne_idle (by rw [lane_modLane_same]; exact nofun)]
    exact congrArg (fun u => Host.Outcome.next (finish u)) (modLane_congr rfl)
  · rw [exec_aClears hr (by rw [hg]; rfl) hs hh hn]
    simp only [State.aClears, lane_modLane_same, hg, State.closeWindow, modLane_modLane, modLane_now]
    rw [quietTest_of_gate_ne_idle (by rw [lane_modLane_same]; exact nofun)]
  · rw [exec_longLimit hr ht hl hn (by rw [hg]; rfl), modLane_setLong hg]; rfl
  · rw [exec_longLimit hr ht hl hn (by rw [hg]; rfl), modLane_setLong hg]; rfl
  · rw [exec_longLimit hr ht hl hn (by rw [hg]; rfl), modLane_setLong hg]; rfl

/-- Settles O24: the fault and its clear as one change of the lane, read back through the entries and the notice. -/
theorem beamFaultRule : Obligations.BeamFaultRule := by
  refine ⟨fun s i x t hr hg hs hn => ?_, fun s i beams t hr hg hn hq => ?_, fun s i beams t hr hg hn => exec_faultClear hr hg hn⟩
  · intro held timer drop
    obtain ⟨_, abandoned⟩ := lane_abandoning s i held
    obtain ⟨_, lane⟩ := lane_declareFault s i ((s.lane i).stuckBeams x s.now)
    refine ⟨_, (s.lane i).stuckBeams x s.now, exec_stuckLimit hr hg hs hn, ?_, ?_⟩
    · rw [declareFault_eq]
      exact congrArg (fun u : State => finish ((u.journalWrite i _).post _)) (modLane_congr (by rw [abandoned]; rfl))
    · have both := (stuckBeams_eq_both_iff (s.lane i) x s.now).trans (forall_congr' fun y => stuckReached_iff y s.now hg)
      rw [lane_finish, lane]
      exact ⟨rfl, both, stuckBeams_of_ne_both _ _ _, rfl, rfl, rfl, rfl, foldl_raise_abandonedEntries _ _ _ hg, rfl, rfl⟩
  · have lane := lane_clearFault s i
    have notDraining : s.clearFault i = (s.clearFault i).quietTest i :=
      (quietTest_of_quietPoint_none (by rw [lane]; exact hq)).symm
    refine ⟨_, exec_faultClear hr hg hn, ?_⟩
    rw [← notDraining, lane_finish, lane]
    exact ⟨rfl, rfl, getLast?_write _ i _ _⟩

/-- Settles O21: the event of each row, and for a beam edge the state of the gate it finds. -/
theorem debouncedLines : Obligations.DebouncedLines := by
  refine ⟨fun s i h hr => ?_, fun s i t hr => ⟨fun hs hh hn => ?_, fun hs hh hn => ?_⟩,
    fun s i t hr => ⟨fun hh hn => ⟨fun hg => ?_, fun beams timer hg => ?_⟩, fun hh hn => ⟨fun hg => ?_, fun beams timer hg => ?_⟩⟩⟩
  · obtain ⟨beam, takeoff, reject⟩ := lineChanges_taken s i h hr
    exact ⟨beam .a, beam .b, takeoff, reject⟩
  · rw [exec_takeoffSettledFall hr hs hh hn]
    exact congrArg (fun u => Host.Outcome.next (finish u)) (modLane_congr (by simp only [Debouncer.settle, hs, Bool.not_true]))
  · rw [exec_rejectSettledRelease hr hs hh hn]
    exact congrArg (fun u => Host.Outcome.next (finish u)) (modLane_congr (by simp only [Debouncer.settle, hs, Bool.not_true]))
  · rw [exec_beamEdge (x := .a) hr hh hn, beamEdge_reset _ hg]; rfl
  · rw [exec_beamEdge (x := .a) hr hh hn, beamEdge_fault _ hg, State.settleBeam, modLane_modLane]; rfl
  · rw [exec_beamEdge (x := .b) hr hh hn, beamEdge_reset _ hg]; rfl
  · rw [exec_beamEdge (x := .b) hr hh hn, beamEdge_fault _ hg, State.settleBeam, modLane_modLane]; rfl

/-- Settles O48: the reply of each read from what its block answers, the entries from what fits the room of the reply. -/
theorem laneReads : Obligations.LaneReads := by
  refine ⟨fun s tag i hs => ?_, fun s tag i first count hs h1 h6 hf hm => ?_⟩
  · intro l view
    have shown : l.view s.now = view := by
      unfold Lane.view
      congr 1
      show l.gate.atA.map FwdItem.code = _
      cases l.gate <;> rfl
    rw [← shown]
    exact ⟨exec_laneGet hs (laneGet_eq s i false), exec_laneGet hs (laneGet_eq s i true), exec_laneCounters hs (laneCounters_eq s i)⟩
  · intro j asked size oldest newest
    let j' := j.read (j.select first count)
    have unread : j'.unread = if j.entries = [] then 0 else newest - j'.readMark := unread_eq j'
    refine ⟨j', j.select first count, ?_, fitting_prefix _ _, entriesSize_fitting_le _ _, fun e => fitting_maximal, rfl, rfl, rfl, rfl, ?_⟩
    · rw [← unread, show oldest = j'.oldest from (oldest_eq j').symm, show newest = j'.newest from (newest_eq j').symm]
      exact exec_laneJournal hs (laneJournal_eq s i h1 h6 hf hm)
    · rw [← unread]
      rfl

end Sys2Proof.Machine
end


section
/-! SUPPORT. What a frame of a sensor head does by the head's state (Tables 2-2 and 2-3): each frame that is valid is taken by its kind, and
each effect on the lane is one change of that lane. -/

namespace Sys2Proof.Machine

/-! ## Valid frames -/

/-- A CODE frame with its fields in range is taken (R19, R24). -/
theorem exec_codeFrame {s : State} (i : LaneIdx) {o t n : Nat} (hr : s.rstHeld = false) (ho : o ≤ 4095) (ht : t ≤ 255) (hn : n ≤ 1048575) :
    exec (.codeFrame i o t n) s = .next (finish ((s.headHunts i).codeArrives i ⟨o, t, n⟩)) := by
  change execCodeFrame i o t n s = _
  have valid : validHead (.code o t n) = some (.code o t n) := by simp [validHead, HeadFrame.inRange, ho, ht, hn]
  rw [execCodeFrame, event_running _ hr, valid]
  rfl

/-- A MEASURE frame with its fields in range is taken (R19, R23). -/
theorem exec_measureFrame {s : State} (i : LaneIdx) {form v : Nat} (hr : s.rstHeld = false) (hf : form ≤ 1) (hv : v ≤ 65535) :
    exec (.measureFrame i form v) s = .next (finish ((s.headHunts i).measureArrives i ⟨formOf form, v⟩)) := by
  change execMeasureFrame i form v s = _
  have valid : validHead (.measure form v) = some (.measure form v) := by simp [validHead, HeadFrame.inRange, hf, hv]
  rw [execMeasureFrame, event_running _ hr, valid]
  rfl

/-- A STATUS frame with its condition in range is taken (R19 to R22). -/
theorem exec_statusFrame {s : State} (i : LaneIdx) {c : Nat} (hr : s.rstHeld = false) (hc : c ≤ 255) :
    exec (.statusFrame i c) s = .next (finish ((s.headHunts i).statusArrives i c)) := by
  change execStatusFrame i c s = _
  have valid : validHead (.status c) = some (.status c) := by simp [validHead, HeadFrame.inRange, hc]
  rw [execStatusFrame, event_running _ hr, valid]
  rfl

@[simp] theorem lane_headHunts (s : State) (i : LaneIdx) : (s.headHunts i).lane i = { s.lane i with headRx := .hunting } :=
  lane_modLane_same s i _

/-! ## Where a code goes -/

/-- The lane once a code has entered its early hold (R26): an early hold of 0 ms makes it a stray read, and so is a different code held. -/
def Lane.holdEarly (l : Lane) (c : Code) (now : Nat) : Lane :=
  if l.cfg.earlyHold = 0 then { l with counters := l.counters.raise .strayReads }
  else { l with
    early := some ⟨c, now⟩
    counters := match l.early with
      | some h => if h.code = c then l.counters else l.counters.raise .strayReads
      | none => l.counters }

theorem toEarlyHold_eq (s : State) (i : LaneIdx) (c : Code) : s.toEarlyHold i c = s.modLane i (fun l => l.holdEarly c s.now) := by
  unfold State.toEarlyHold State.count
  dsimp only
  split
  · next zero => exact modLane_congr (by rw [Lane.holdEarly, if_pos zero])
  · next positive =>
    split
    · next h held =>
      split
      · next same => exact modLane_congr (by rw [Lane.holdEarly, if_neg positive]; simp only [held, same, if_true])
      · next other =>
        rw [modLane_modLane]
        exact modLane_congr (by rw [Lane.holdEarly, if_neg positive]; simp only [held, other, if_false])
    · next held => exact modLane_congr (by rw [Lane.holdEarly, if_neg positive]; simp only [held])

/-- The lane once a code has come while no code window is open: the item in late grace takes it, else the early hold (R26, R27). -/
def Lane.codeOutsideWindow (l : Lane) (c : Code) (now : Nat) : Lane :=
  if l.grace.isSome then l.offerInGrace c else l.holdEarly c now

/-- The lane once a code has been routed (Table 2-3). -/
def Lane.routeCode (l : Lane) (c : Code) (now : Nat) : Lane :=
  match l.gate with
  | .enter it => { l with gate := .enter (it.offer c) }
  | .span it => { l with gate := .span (it.offer c) }
  | .exitEnter x e => { l with gate := .exitEnter x (e.offer c) }
  | .exit _ => l.codeOutsideWindow c now
  | .idle => l.codeOutsideWindow c now
  | .back _ => l.codeOutsideWindow c now
  | .backSpan _ => { l with counters := l.counters.raise .strayReads }
  | .backExit _ => { l with counters := l.counters.raise .strayReads }
  | .fault _ _ => { l with counters := l.counters.raise .strayReads }
  | .reset => l

theorem routeCode_eq (s : State) (i : LaneIdx) (c : Code) : s.routeCode i c = s.modLane i (fun l => l.routeCode c s.now) := by
  have outside : (if (s.lane i).grace.isSome then s.modLane i (fun l => l.offerInGrace c) else s.toEarlyHold i c) =
      s.modLane i (fun l => l.codeOutsideWindow c s.now) := by
    split
    · next h => exact modLane_congr (by rw [Lane.codeOutsideWindow, if_pos h])
    · next h => rw [toEarlyHold_eq]; exact modLane_congr (by rw [Lane.codeOutsideWindow, if_neg h])
  unfold State.routeCode
  dsimp only
  rw [outside]
  split
  case h_10 => next h => exact (modLane_self (by simp only [Lane.routeCode, h])).symm
  all_goals next h => exact modLane_congr (by simp only [Lane.routeCode, h])

/-- No code window is open in IDLE, EXIT and BACK (R24). -/
def Gate.noWindow (g : Gate) : Prop := g = .idle ∨ (∃ it, g = .exit it) ∨ ∃ seen, g = .back seen

theorem routeCode_noWindow {l : Lane} (h : l.gate.noWindow) (c : Code) (now : Nat) : l.routeCode c now = l.codeOutsideWindow c now := by
  rcases h with h | ⟨it, h⟩ | ⟨seen, h⟩ <;> simp only [Lane.routeCode, h]

/-- With no window open the item in late grace takes a code (R27). -/
theorem routeCode_inGrace {l : Lane} (hg : l.gate.noWindow) (hw : l.grace ≠ none) (c : Code) (now : Nat) :
    l.routeCode c now = l.offerInGrace c := by
  rw [routeCode_noWindow hg]
  exact if_pos (Option.isSome_iff_ne_none.2 hw)

/-- With no window open and no late grace running the early hold takes a code (R26). -/
theorem routeCode_toHold {l : Lane} (hg : l.gate.noWindow) (hw : l.grace = none) (c : Code) (now : Nat) :
    l.routeCode c now = l.holdEarly c now := by
  rw [routeCode_noWindow hg]
  exact if_neg (by rw [hw]; exact nofun)

/-- At a reversing item at A and in FAULT a code is a stray read (R24). -/
theorem routeCode_stray {l : Lane} (h : (∃ seen, l.gate = .backSpan seen) ∨ (∃ seen, l.gate = .backExit seen) ∨
    ∃ beams timer, l.gate = .fault beams timer) (c : Code) (now : Nat) :
    l.routeCode c now = { l with counters := l.counters.raise .strayReads } := by
  rcases h with ⟨seen, h⟩ | ⟨seen, h⟩ | ⟨beams, timer, h⟩ <;> simp only [Lane.routeCode, h]

/-- The lane once a valid frame has come from its PRESENT head: the receiver hunts and the silence timer restarts (R20, R186). -/
def Lane.heard (l : Lane) (now : Nat) : Lane := { l with headRx := .hunting, head := .present now }

/-- A code frame from a PRESENT head restarts the silence timer and is routed (R20, R24). -/
theorem exec_codeFrame_present {s : State} {i : LaneIdx} {o t n since : Nat} {f : Lane → Lane} (hr : s.rstHeld = false)
    (hb : o ≤ 4095 ∧ t ≤ 255 ∧ n ≤ 1048575) (hp : (s.lane i).head = .present since)
    (hf : ((s.lane i).heard s.now).routeCode ⟨o, t, n⟩ s.now = f (s.lane i)) :
    exec (.codeFrame i o t n) s = .next (finish (s.modLane i f)) := by
  obtain ⟨ho, ht, hn⟩ := hb
  rw [exec_codeFrame i hr ho ht hn]
  simp only [State.codeArrives, lane_headHunts, hp, routeCode_eq]
  rw [State.headHunts, modLane_modLane, modLane_modLane]
  refine congrArg (fun u => Host.Outcome.next (finish u)) (modLane_congr ?_)
  rw [← hf]
  simp only [Lane.restartSilence, hp, modLane_now]
  rfl

/-! ## Routing and the end of an event -/

theorem codeOutsideWindow_pacing (l : Lane) (p : Pacing) (c : Code) (now : Nat) :
    { l with pacing := p }.codeOutsideWindow c now = { l.codeOutsideWindow c now with pacing := p } := by
  unfold Lane.codeOutsideWindow
  dsimp only
  split
  · cases h : l.gate <;> simp only [Lane.offerInGrace, h]
  · by_cases zero : l.cfg.earlyHold = 0
    · simp only [Lane.holdEarly, zero, if_true]
    · simp only [Lane.holdEarly, zero, if_false]

/-- Pacing plays no part in where a code goes. -/
theorem routeCode_pacing (l : Lane) (p : Pacing) (c : Code) (now : Nat) :
    { l with pacing := p }.routeCode c now = { l.routeCode c now with pacing := p } := by
  by_cases window : l.gate.noWindow
  · rw [routeCode_noWindow (l := { l with pacing := p }) window, routeCode_noWindow window, codeOutsideWindow_pacing]
  · cases h : l.gate
    case idle => exact absurd (.inl h) window
    case exit it => exact absurd (.inr (.inl ⟨it, h⟩)) window
    case back seen => exact absurd (.inr (.inr ⟨seen, h⟩)) window
    all_goals simp only [Lane.routeCode, h]

theorem startTx_startTx (s : State) : s.startTx.startTx = s.startTx := by
  cases tx : s.host.tx with
  | some f => simp only [State.startTx, tx]
  | none =>
    cases reply : s.host.reply with
    | some r => simp only [State.startTx, tx, reply]
    | none => cases notices : s.host.notices <;> simp only [State.startTx, tx, reply, notices]

/-- The transmitter does not look at the lanes (R177). -/
theorem startTx_withLanes (s : State) (lanes : Vector Lane 6) : { s with lanes := lanes }.startTx = { s.startTx with lanes := lanes } := by
  cases tx : s.host.tx with
  | some f => simp only [State.startTx, tx]
  | none =>
    cases reply : s.host.reply with
    | some r => simp only [State.startTx, tx, reply]
    | none => cases notices : s.host.notices <;> simp only [State.startTx, tx, reply, notices]

@[simp] theorem startTx_lanes (s : State) : s.startTx.lanes = s.lanes := by
  obtain ⟨host, e, -⟩ := startTx_cases s
  rw [e]

theorem startTx_modLane (s : State) (i : LaneIdx) (f : Lane → Lane) : s.startTx.modLane i f = (s.modLane i f).startTx := by
  have lane : s.startTx.lane i = s.lane i := by simp only [State.lane, startTx_lanes]
  rw [State.modLane, State.setLane, startTx_lanes, lane]
  exact (startTx_withLanes s _).symm

theorem startTx_repace (s : State) : s.startTx.repace = s.repace.startTx := by
  rw [State.repace, startTx_lanes]
  exact (startTx_withLanes s _).symm

/-- A change of one lane that pacing plays no part in, between two times that pacing is brought up to date. -/
theorem repace_modLane_repace (s : State) (i : LaneIdx) {f : Lane → Lane} (h : ∀ l p, f { l with pacing := p } = { f l with pacing := p }) :
    (s.repace.modLane i f).repace = (s.modLane i f).repace := by
  have lane : (f (s.lane i).repace).repace = (f (s.lane i)).repace :=
    (congrArg Lane.repace (h (s.lane i) (s.lane i).pacingDue) :)
  have rest : (s.lanes.map Lane.repace).map Lane.repace = s.lanes.map Lane.repace := by rw [Vector.map_map]; rfl
  have lanes : ((s.lanes.map Lane.repace).set i.val (f (s.lane i).repace)).map Lane.repace =
      (s.lanes.set i.val (f (s.lane i))).map Lane.repace := by
    rw [Vector.map_set, Vector.map_set, lane, rest]
  unfold State.modLane
  rw [lane_repace]
  exact congrArg (fun v : Vector Lane 6 => { s with lanes := v }) lanes

/-- The end of an event before such a change leaves the end after it as it is (R49, R177). -/
theorem finish_modLane_finish (s : State) (i : LaneIdx) {f : Lane → Lane} (h : ∀ l p, f { l with pacing := p } = { f l with pacing := p }) :
    finish ((finish s).modLane i f) = finish (s.modLane i f) :=
  calc finish ((finish s).modLane i f)
    _ = (s.repace.modLane i f).repace.startTx.startTx := by rw [finish, finish, startTx_modLane, startTx_repace]
    _ = finish (s.modLane i f) := by rw [startTx_startTx, repace_modLane_repace s i h]; rfl

/-! ## The loss and the return of a head -/

/-- What a return does to the lane (R22). -/
theorem lane_headReturns (s : State) (i : LaneIdx) : (s.headReturns i).lane i = { s.lane i with
    head := .present s.now, journal := ((s.lane i).journal.write i s.stamp (.fault .headBack)).1 } := by
  rw [State.headReturns, lane_post, lane_journalWrite_same, lane_modLane_same]
  rfl

/-- STATUS with condition 0 from a LOST head is its return (R22). -/
theorem exec_statusFrame_returns {s : State} {i : LaneIdx} (hr : s.rstHeld = false) (hl : (s.lane i).head = .lost) :
    exec (.statusFrame i 0) s = .next (finish ((s.headHunts i).headReturns i)) := by
  rw [exec_statusFrame i hr (Nat.zero_le 255)]
  simp only [State.statusArrives, lane_headHunts, hl, if_true]

@[simp] theorem headHunts_now (s : State) (i : LaneIdx) : (s.headHunts i).now = s.now := rfl
@[simp] theorem headHunts_rstHeld (s : State) (i : LaneIdx) : (s.headHunts i).rstHeld = s.rstHeld := rfl
@[simp] theorem headReturns_now (s : State) (i : LaneIdx) : (s.headReturns i).now = s.now := by simp [State.headReturns]
@[simp] theorem headReturns_rstHeld (s : State) (i : LaneIdx) : (s.headReturns i).rstHeld = s.rstHeld := by simp [State.headReturns]

/-- A code from a LOST head does what the return of the head does, and then what a code from the PRESENT head does (R22, R24). -/
theorem exec_codeFrame_lost {s : State} {i : LaneIdx} {o t n : Nat} (hr : s.rstHeld = false) (hb : o ≤ 4095 ∧ t ≤ 255 ∧ n ≤ 1048575)
    (hl : (s.lane i).head = .lost) :
    exec (.codeFrame i o t n) s = exec (.codeFrame i o t n) (finish ((s.headHunts i).headReturns i)) := by
  let back := (s.headHunts i).headReturns i
  have lane : (finish back).lane i = _ := (lane_finish back i).trans (congrArg Lane.repace (lane_headReturns (s.headHunts i) i))
  have now : (finish back).now = s.now := by simp [back]
  have fromLost : exec (.codeFrame i o t n) s = .next (finish (back.modLane i (fun l => l.routeCode ⟨o, t, n⟩ s.now))) := by
    obtain ⟨ho, ht, hn⟩ := hb
    rw [exec_codeFrame i hr ho ht hn]
    simp only [State.codeArrives, lane_headHunts, hl, routeCode_eq, headReturns_now, headHunts_now, back]
  have fromPresent : exec (.codeFrame i o t n) (finish back) =
      .next (finish ((finish back).modLane i (fun l => l.routeCode ⟨o, t, n⟩ s.now))) := by
    refine exec_codeFrame_present (since := s.now) (by simp [back, hr]) hb (by rw [lane]; rfl) ?_
    rw [now, lane, lane_headHunts]
    rfl
  rw [fromLost, fromPresent, finish_modLane_finish _ _ (fun l p => routeCode_pacing l p _ _)]

/-- What a loss does to the lane (R21). -/
theorem lane_headLosing (s : State) (i : LaneIdx) (cause : HeadCause) (code : Nat) :
    (s.headLosing i cause code).lane i = { s.lane i with
      head := .lost, lastFault := code, early := none,
      counters := if (s.lane i).early = none then (s.lane i).counters else (s.lane i).counters.raise .strayReads,
      gate := headLostGate (s.lane i).gate,
      waiting := (s.lane i).waiting.map (fun w => { w with item := { w.item with headLost := true } }),
      journal := ((s.lane i).journal.write i s.stamp (.fault (.headLost cause))).1 } := by
  rw [State.headLosing, lane_post, lane_journalWrite_same, lane_modLane_same]
  rfl

/-- A fault code from a PRESENT head is its loss with that code (R21). -/
theorem exec_statusFrame_loses {s : State} {i : LaneIdx} {since c : Nat} (hr : s.rstHeld = false) (hp : (s.lane i).head = .present since)
    (h1 : 1 ≤ c) (hc : c ≤ 255) : exec (.statusFrame i c) s = .next (finish ((s.headHunts i).headLosing i (.code c) c)) := by
  rw [exec_statusFrame i hr hc]
  simp only [State.statusArrives, lane_headHunts, hp, Nat.ne_of_gt h1, if_false, declareLost_eq]
  rfl

/-! ## Measurements and other STATUS frames -/

theorem exec_measureFrame_present {s : State} {i : LaneIdx} {since form v : Nat} (hr : s.rstHeld = false) (hf : form ≤ 1) (hv : v ≤ 65535)
    (hp : (s.lane i).head = .present since) : exec (.measureFrame i form v) s = .next (finish (s.modLane i (fun l =>
      { l.heard s.now with measure := some ⟨⟨formOf form, v⟩, s.now⟩ }))) := by
  rw [exec_measureFrame i hr hf hv]
  simp only [State.measureArrives, lane_headHunts, hp]
  rw [State.headHunts, modLane_modLane]
  exact congrArg (fun u => Host.Outcome.next (finish u)) (modLane_congr (by simp only [Lane.restartSilence, hp]; rfl))

/-- A measurement from a LOST head is kept and does not end the loss (R21, R23). -/
theorem exec_measureFrame_lost {s : State} {i : LaneIdx} {form v : Nat} (hr : s.rstHeld = false) (hf : form ≤ 1) (hv : v ≤ 65535)
    (hl : (s.lane i).head = .lost) : exec (.measureFrame i form v) s = .next (finish (s.modLane i (fun l =>
      { l with headRx := .hunting, measure := some ⟨⟨formOf form, v⟩, s.now⟩ }))) := by
  rw [exec_measureFrame i hr hf hv]
  simp only [State.measureArrives, lane_headHunts, hl]
  rw [State.headHunts, modLane_modLane]
  exact congrArg (fun u => Host.Outcome.next (finish u)) (modLane_congr (by simp only [Lane.restartSilence, hl]; rfl))

theorem exec_measureFrame_off {s : State} {i : LaneIdx} {form v : Nat} (hr : s.rstHeld = false) (hf : form ≤ 1) (hv : v ≤ 65535)
    (hoff : (s.lane i).head = .off) : exec (.measureFrame i form v) s = .next (finish (s.headHunts i)) := by
  rw [exec_measureFrame i hr hf hv]
  simp only [State.measureArrives, lane_headHunts, hoff]

theorem exec_statusFrame_present {s : State} {i : LaneIdx} {since : Nat} (hr : s.rstHeld = false) (hp : (s.lane i).head = .present since) :
    exec (.statusFrame i 0) s = .next (finish (s.modLane i (fun l => l.heard s.now))) := by
  rw [exec_statusFrame i hr (Nat.zero_le 255)]
  simp only [State.statusArrives, lane_headHunts, hp, if_true]
  rw [State.headHunts, modLane_modLane]
  exact congrArg (fun u => Host.Outcome.next (finish u)) (modLane_congr (by simp only [Lane.restartSilence, hp]; rfl))

/-- A fault code from a LOST head replaces its last one (R21). -/
theorem exec_statusFrame_lost {s : State} {i : LaneIdx} {c : Nat} (hr : s.rstHeld = false) (hl : (s.lane i).head = .lost) (h1 : 1 ≤ c)
    (hc : c ≤ 255) : exec (.statusFrame i c) s = .next (finish (s.modLane i (fun l => { l with headRx := .hunting, lastFault := c }))) := by
  rw [exec_statusFrame i hr hc]
  simp only [State.statusArrives, lane_headHunts, hl, Nat.ne_of_gt h1, if_false]
  rw [State.headHunts, modLane_modLane]

theorem exec_statusFrame_off {s : State} {i : LaneIdx} {c : Nat} (hr : s.rstHeld = false) (hoff : (s.lane i).head = .off) (hc : c ≤ 255) :
    exec (.statusFrame i c) s = .next (finish (s.headHunts i)) := by
  rw [exec_statusFrame i hr hc]
  simp only [State.statusArrives, lane_headHunts, hoff]

end Sys2Proof.Machine
end

section
/-! SUPPORT. What runs out (R21, R26, R27, R54, R91), and what handing an item on does (R27, R29 to R32, R44, R97). -/

namespace Sys2Proof.Machine

/-! ## Timers that run out -/

theorem exec_headSilence {s : State} {i : LaneIdx} {t : Nat} (hr : s.rstHeld = false) (hp : (s.lane i).head = .present t)
    (hn : t + 2000 ≤ s.now) : exec (.headSilence i) s = .next (finish (s.headLosing i .silent (s.lane i).lastFault)) := by
  change execHeadSilence i s = _
  have reached : (s.lane i).silenceReached s.now = true := by simp only [Lane.silenceReached, hp, Config.headSilenceMs, hn, decide_true]
  rw [execHeadSilence, event_running _ hr, if_pos reached, declareLost_eq]
  rfl

theorem exec_earlyHoldExpiry {s : State} {i : LaneIdx} {h : HeldCode} (hr : s.rstHeld = false) (he : (s.lane i).early = some h)
    (hn : h.since + (s.lane i).cfg.earlyHold ≤ s.now) : exec (.earlyHoldExpiry i) s = .next (finish (s.modLane i (fun l =>
      { l with early := none, counters := l.counters.raise .strayReads }))) := by
  change execEarlyHoldExpiry i s = _
  have reached : (s.lane i).earlyReached s.now = true := by simp only [Lane.earlyReached, he, hn, decide_true]
  have held : (s.lane i).early.isSome = true := by rw [he]; rfl
  rw [execEarlyHoldExpiry, event_running _ hr, if_pos reached, State.dropEarly, if_pos held, State.count, modLane_modLane]

/-- A late grace that has run out ends, a waiting item being handed on, and the drain is tested (R27, R106). -/
theorem exec_lateGraceExpiry {s : State} {i : LaneIdx} {t : Nat} (hr : s.rstHeld = false) (hg : (s.lane i).grace = some t)
    (hn : t + (s.lane i).cfg.lateGrace ≤ s.now) : exec (.lateGraceExpiry i) s = .next (finish ((s.endGrace i).quietTest i)) := by
  change execLateGraceExpiry i s = _
  have reached : (s.lane i).graceReached s.now = true := by simp only [Lane.graceReached, hg, hn, decide_true]
  rw [execLateGraceExpiry, event_running _ hr, if_pos reached]

theorem exec_rejectWindowExpiry {s : State} {i : LaneIdx} {e : RejectEntry} (hr : s.rstHeld = false)
    (he : (s.lane i).rejects.getLast? = some e) (hn : e.completed + (s.lane i).cfg.rejectWindow ≤ s.now) :
    exec (.rejectWindowExpiry i) s = .next (finish (s.modLane i (fun l => { l with rejects := l.rejects.dropLast }))) := by
  change execRejectWindowExpiry i s = _
  have reached : (s.lane i).rejectReached s.now = true := by simp only [Lane.rejectReached, he, hn, decide_true]
  rw [execRejectWindowExpiry, event_running _ hr, if_pos reached]

theorem exec_sightingAged {s : State} {e : Sighting} {rest : List Sighting} (hr : s.rstHeld = false) (hs : s.sightings = e :: rest)
    (hn : e.lastSeen + s.holdPeriod * 1000 ≤ s.now) :
    exec .sightingAged s = .next (finish { s.countYard .aged with sightings := rest }) := by
  change execSightingAged s = _
  have aged : s.aged e = true := decide_eq_true hn
  rw [execSightingAged, event_running _ hr, hs]
  simp only [aged, if_true]

/-! ## The end of a late grace -/

theorem endGrace_of_none_waiting {s : State} {i : LaneIdx} (hw : (s.lane i).waiting = none) :
    s.endGrace i = s.modLane i (fun l => { l with grace := none }) := by
  simp only [State.endGrace, hw]

/-- A waiting item is handed on as its late grace ends (R27, R29). -/
theorem endGrace_of_waiting {s : State} {i : LaneIdx} {w : Waiting} (hw : (s.lane i).waiting = some w) :
    s.endGrace i = (s.modLane i (fun l => { l with grace := none, waiting := none })).handOver i w.item w.completed := by
  simp only [State.endGrace, hw]

/-- A blocks while an item waits: the time is noted and the item is handed on (R16, R27). -/
theorem noteABlock_of_waiting {s : State} {i : LaneIdx} {w : Waiting} (hw : (s.lane i).waiting = some w) :
    s.noteABlock i =
      (s.modLane i (fun l => { l with lastABlock := some s.now, grace := none, waiting := none })).handOver i w.item w.completed := by
  rw [State.noteABlock, endGrace_of_waiting (by rw [lane_modLane_same]; exact hw), modLane_modLane]

/-- A drain is never quiet while a late grace runs (R106). -/
theorem quietTest_of_grace {s : State} {i : LaneIdx} (hg : (s.lane i).grace ≠ none) : s.quietTest i = s := by
  have notQuiet : (s.lane i).quiet s.now = false := by
    unfold Lane.quiet
    split
    · simp only [Option.isNone_eq_false_iff.2 (Option.isSome_iff_ne_none.2 hg), Bool.and_false]
    · rfl
  rw [State.quietTest, notQuiet]
  rfl

/-! ## A forward transit -/

/-- The lane as a forward transit completes, its item aside (R7, R12). -/
def Lane.passed (l : Lane) (it : FwdItem) (g : Gate) : Lane :=
  { l with gate := g, counters := if it.long then (l.counters.raise .forward).raise .longItems else l.counters.raise .forward }

theorem complete_eq (s : State) (i : LaneIdx) (it : FwdItem) (g : Gate) :
    s.complete i it g =
      if (s.lane i).grace.isSome then s.modLane i (fun l => { l.passed it g with waiting := some ⟨it, s.now⟩ })
      else (s.modLane i (fun l => l.passed it g)).handOver i it s.now := by
  have counted : (if it.long then ((s.setGate i g).count i .forward).count i .longItems else (s.setGate i g).count i .forward) =
      s.modLane i (fun l => l.passed it g) := by
    unfold State.count State.setGate
    simp only [modLane_modLane]
    split
    · next long => exact modLane_congr (by rw [Lane.passed, if_pos long])
    · next long => exact modLane_congr (by rw [Lane.passed, if_neg long])
  unfold State.complete
  dsimp only
  rw [counted, modLane_modLane]

/-- The lane as B clears, the edge not yet applied (R1, R13). -/
def Lane.clearB (l : Lane) : Lane := { l with beamB := { l.beamB with settled := false, hold := none }, stuckB := none }

/-- B clears behind the item that has left A: its transit completes (R7). -/
theorem exec_bClears_completes {s : State} {i : LaneIdx} {t : Nat} {it : FwdItem} {g : Gate} (hr : s.rstHeld = false)
    (hs : (s.lane i).beamB.settled = true) (hh : (s.lane i).beamB.hold = some t) (hn : t + 3 ≤ s.now)
    (hgate : ((s.lane i).gate = .exit it ∧ g = .idle) ∨ ∃ e, (s.lane i).gate = .exitEnter it e ∧ g = .enter e) :
    ((s.modLane i Lane.clearB).lane i).grace = (s.lane i).grace ∧
    exec (.beamEdge i .b) s = .next (finish (((s.modLane i Lane.clearB).complete i it g).quietTest i)) := by
  have gate : ((s.modLane i Lane.clearB).lane i).gate = (s.lane i).gate := by rw [lane_modLane_same]; rfl
  refine ⟨by rw [lane_modLane_same]; rfl, ?_⟩
  rcases hgate with ⟨hgate, rfl⟩ | ⟨e, hgate, rfl⟩
  · have cell : (s.modLane i Lane.clearB).bClears i = (s.modLane i Lane.clearB).complete i it .idle := by
      simp only [State.bClears, gate, hgate]
    rw [← cell]
    exact exec_bClears hr (by rw [hgate]; rfl) hs hh hn
  · have cell : (s.modLane i Lane.clearB).bClears i = (s.modLane i Lane.clearB).complete i it (.enter e) := by
      simp only [State.bClears, gate, hgate]
    rw [← cell]
    exact exec_bClears hr (by rw [hgate]; rfl) hs hh hn

/-! ## Capture (R31, Table 2-4) -/

theorem sampleInRange_some (kind : LaneKind) (m : Measurement) :
    sampleInRange kind (some m) =
      if (kind = .crate ∧ m.form = .layers ∧ 1 ≤ m.value ∧ m.value ≤ 12) ∨ (kind = .keg ∧ m.form = .weight ∧ m.value ≤ 2000)
      then some m else none := by
  cases kind <;> cases form : m.form <;> simp [sampleInRange, form]

/-! ## Accumulation -/

/-- The lane once a handover has been counted into accumulation (R44). -/
def Lane.accumulated (l : Lane) : Lane :=
  if l.occupancy < l.cfg.capacity then { l with occupancy := l.occupancy + 1, peak := max l.peak (l.occupancy + 1) }
  else { l with counters := l.counters.raise .overflows, latch := true }

/-- ACCUM_FULL is posted as the latch is set, and only then (R44). -/
theorem accumulate_eq (s : State) (i : LaneIdx) :
    s.accumulate i = s.modLane i Lane.accumulated ∨
    s.accumulate i = (s.modLane i Lane.accumulated).post (.accumFull i (s.lane i).cfg.capacity) := by
  unfold State.accumulate State.count
  dsimp only
  rw [modLane_modLane]
  split
  · next room => exact .inl (modLane_congr (by rw [Lane.accumulated, if_pos room]))
  · next full =>
    have latched : s.modLane i (fun l => { l with counters := l.counters.raise .overflows, latch := true }) = s.modLane i Lane.accumulated :=
      modLane_congr (by rw [Lane.accumulated, if_neg full])
    rw [latched]
    split
    · exact .inl rfl
    · exact .inr rfl

theorem lane_accumulate (s : State) (i : LaneIdx) : (s.accumulate i).lane i = (s.lane i).accumulated := by
  rcases accumulate_eq s i with h | h <;> simp [h]

@[simp] theorem accumulate_sightings (s : State) (i : LaneIdx) : (s.accumulate i).sightings = s.sightings := by
  rcases accumulate_eq s i with h | h <;> simp [h]

@[simp] theorem accumulate_tables (s : State) (i : LaneIdx) : (s.accumulate i).tables = s.tables := by
  rcases accumulate_eq s i with h | h <;> simp [h]

/-- Accumulation leaves a lane but its occupancy, peak and latch, and the counter of overflows. -/
theorem accumulated_cases (l : Lane) : ∃ peak latch counters, l.accumulated = { l with
    occupancy := if l.occupancy < l.cfg.capacity then l.occupancy + 1 else l.occupancy, peak := peak, latch := latch, counters := counters } ∧
    counters.strayItems = l.counters.strayItems := by
  unfold Lane.accumulated
  split
  · exact ⟨_, _, _, rfl, rfl⟩
  · exact ⟨_, _, _, rfl, rfl⟩

/-! ## Handing on -/

theorem countingDrop_eq_some {l : Lane} {d : LaneDrop} (hd : l.drop = some d) (hs : l.state = .opened ∨ l.state = .draining) :
    l.countingDrop = some d.record := by
  rcases hs with hs | hs <;> simp only [Lane.countingDrop, Lane.counting, hs, hd, if_true, Option.map_some]

theorem countingDrop_eq_none {l : Lane} (h1 : l.state ≠ .opened) (h2 : l.state ≠ .draining) : l.countingDrop = none := by
  cases hs : l.state
  case opened => exact absurd hs h1
  case draining => exact absurd hs h2
  all_goals simp only [Lane.countingDrop, Lane.counting, hs, Bool.false_eq_true, if_false]

theorem countingDrop_of_no_drop {l : Lane} (hd : l.drop = none) : l.countingDrop = none := by
  simp only [Lane.countingDrop, hd, Option.map_none, ite_self]

/-- What is counted of an item as it is handed on: its capture cause, then its place in accumulation (R32, R44). -/
def State.countHandover (s : State) (i : LaneIdx) (c : CaptureCause) : State := (s.count i c.counter).accumulate i

theorem lane_countHandover (s : State) (i : LaneIdx) (c : CaptureCause) :
    (s.countHandover i c).lane i = { s.lane i with counters := (s.lane i).counters.raise c.counter }.accumulated := by
  rw [State.countHandover, lane_accumulate, State.count, lane_modLane_same]

theorem countingDrop_countHandover (s : State) (i : LaneIdx) (c : CaptureCause) :
    ((s.countHandover i c).lane i).countingDrop = (s.lane i).countingDrop := by
  obtain ⟨_, _, _, lane, -⟩ := accumulated_cases { s.lane i with counters := (s.lane i).counters.raise c.counter }
  rw [lane_countHandover, lane]
  rfl

/-- On an OPEN or DRAINING lane an item is classified into the drop (R32, R76). -/
theorem handOver_of_counting {s : State} {i : LaneIdx} {d : DropRec} (hd : (s.lane i).countingDrop = some d) (it : FwdItem)
    (completed : Nat) :
    s.handOver i it completed = (s.countHandover i (settleCapture (s.lane i).cfg.kind it).cause).classify i d
      (itemRecord (s.lane i).cfg.kind it completed) := by
  have counting := countingDrop_countHandover s i (settleCapture (s.lane i).cfg.kind it).cause
  rw [hd] at counting
  unfold State.handOver
  simp only [itemRecord]
  rw [← State.countHandover, counting]

/-- On any other lane it is a stray (R32, R97). -/
theorem handOver_of_not_counting {s : State} {i : LaneIdx} (hd : (s.lane i).countingDrop = none) (it : FwdItem) (completed : Nat) :
    s.handOver i it completed = (s.countHandover i (settleCapture (s.lane i).cfg.kind it).cause).stray i
      (itemRecord (s.lane i).cfg.kind it completed) := by
  have counting := countingDrop_countHandover s i (settleCapture (s.lane i).cfg.kind it).cause
  rw [hd] at counting
  unfold State.handOver
  simp only [itemRecord]
  rw [← State.countHandover, counting]

/-- What the stray path leaves of the lane: its journal and the counter of stray items apart, all of it (R97). -/
theorem lane_stray (s : State) (i : LaneIdx) (it : Item) : (s.stray i it).lane i = { s.lane i with
    journal := ((s.lane i).journal.write i s.stamp
      (.stray it.long it.capture (s.now - it.opened) (s.now - it.aCleared) (s.now - it.completed))).1,
    counters := (s.lane i).counters.raise .strayItems } := by
  rw [State.stray, lane_post, State.count, lane_modLane_same, lane_journalWrite_same]

@[simp] theorem countHandover_now (s : State) (i : LaneIdx) (c : CaptureCause) : (s.countHandover i c).now = s.now :=
  ((acts_count s i _).trans (acts_accumulate _ i)).now

theorem journal_countHandover (s : State) (i : LaneIdx) (c : CaptureCause) :
    ((s.countHandover i c).lane i).journal = (s.lane i).journal := by
  obtain ⟨_, _, _, lane, -⟩ := accumulated_cases { s.lane i with counters := (s.lane i).counters.raise c.counter }
  rw [lane_countHandover, lane]

@[simp] theorem stray_sightings (s : State) (i : LaneIdx) (it : Item) : (s.stray i it).sightings = s.sightings := by
  simp [State.stray, State.count]

@[simp] theorem stray_tables (s : State) (i : LaneIdx) (it : Item) : (s.stray i it).tables = s.tables := by
  simp [State.stray, State.count]

theorem countHandover_stamp (s : State) (i : LaneIdx) (c : CaptureCause) : (s.countHandover i c).stamp = s.stamp :=
  acts_stamp ((acts_count s i _).trans (acts_accumulate _ i))

/-- The lane once an item has been handed on as a stray: counted, in accumulation, and with a STRAY entry of the moment at the newest end. -/
theorem lane_handOver_stray {s : State} {i : LaneIdx} (hd : (s.lane i).drop = none) (it : FwdItem) (completed : Nat) :
    ∃ peak latch counters body, (s.handOver i it completed).lane i = { s.lane i with
      occupancy := if (s.lane i).occupancy < (s.lane i).cfg.capacity then (s.lane i).occupancy + 1 else (s.lane i).occupancy,
      peak := peak, latch := latch, counters := counters, journal := ((s.lane i).journal.write i s.stamp body).1 } ∧
      counters.strayItems = (s.lane i).counters.strayItems.raise ∧ body.kind = 1 := by
  rw [handOver_of_not_counting (countingDrop_of_no_drop hd), lane_stray, countHandover_stamp, lane_countHandover]
  obtain ⟨peak, latch, counters, lane, same⟩ := accumulated_cases { s.lane i with
    counters := (s.lane i).counters.raise (settleCapture (s.lane i).cfg.kind it).cause.counter }
  rw [lane]
  refine ⟨peak, latch, counters.raise .strayItems, _, rfl, ?_, rfl⟩
  have untouched : counters.strayItems = (s.lane i).counters.strayItems := by
    rw [same]
    cases (settleCapture (s.lane i).cfg.kind it).cause <;> rfl
  exact congrArg Counter.raise untouched

/-- A stray reaches no sighting, no table and no record (R97). -/
theorem handOver_stray_keeps {s : State} {i : LaneIdx} (hd : (s.lane i).drop = none) (it : FwdItem) (completed : Nat) :
    (s.handOver i it completed).sightings = s.sightings ∧ (s.handOver i it completed).store = s.store ∧
    (s.handOver i it completed).tables = s.tables := by
  refine ⟨?_, (itemPath_handOver i s it completed).store, ?_⟩ <;>
    rw [handOver_of_not_counting (countingDrop_of_no_drop hd)] <;> simp [State.countHandover, State.count]

end Sys2Proof.Machine
end

section
/-! SUPPORT. The receivers of the links (R19, R145, R175, R186): what a host frame, a byte and a discard do, and that a frame valid after all
has its fields in range. -/

namespace Sys2Proof.Machine

/-! ## The host receiver -/

theorem frameCompletes_good {f : Frame} (s : State) (hf : f.wf = true) : s.frameCompletes f f.check = s.hostHunts.bufferRequest f := by
  have short : ¬ Config.bodyMax < f.body.length := Nat.not_lt.2 (of_decide_eq_true hf)
  rw [State.frameCompletes, if_neg short, if_pos rfl]

theorem frameCompletes_bad {f : Frame} {check : Check} (s : State) (hf : f.wf = true) (hc : check ≠ f.check) :
    s.frameCompletes f check = s.hostHunts.linkFault .check 0 0 := by
  have short : ¬ Config.bodyMax < f.body.length := Nat.not_lt.2 (of_decide_eq_true hf)
  rw [State.frameCompletes, if_neg short, if_neg hc]

theorem exec_hostFrame {s : State} (f : Frame) (check : Check) (hr : s.rstHeld = false) :
    exec (.hostFrame f check) s = .next (finish (s.frameCompletes f check)) := by
  change execHostFrame f check s = _
  rw [execHostFrame, event_running _ hr]

theorem exec_hostByteReceived {s : State} (b : Byte) (stopOk : Bool) (hr : s.rstHeld = false) :
    exec (.hostByteReceived b stopOk) s = .next (finish (s.hostByte b stopOk)) := by
  change execHostByteReceived b stopOk s = _
  rw [execHostByteReceived, event_running _ hr]

/-- A hunting receiver takes the start byte and nothing else (R175). -/
theorem hostByte_hunting {s : State} (hx : s.host.rx = .hunting) (b : Byte) (stopOk : Bool) :
    s.hostByte b stopOk = if stopOk = true ∧ b = 0xA7 then s.hostAssembles [] else s := by
  simp only [State.hostByte, hx, Bool.and_eq_true, decide_eq_true_eq]
  rfl

/-- The length byte is taken up to 240 (R175). -/
theorem hostByte_length {s : State} {t : Nat} (hx : s.host.rx = .assembling [] t) (b : Byte) :
    s.hostByte b true = if 240 < b.toNat then s.hostHunts.linkFault .length 0 0 else s.hostAssembles [b] := by
  have long : tooLong [b] = decide (240 < b.toNat) := rfl
  have unfinished : assembled [b] = none := rfl
  simp only [State.hostByte, hx, if_true, List.nil_append, long, unfinished, decide_eq_true_eq]

/-- A bad stop bit in a frame discards it (R175). -/
theorem hostByte_badStop {s : State} {bs : List Byte} {t : Nat} (hx : s.host.rx = .assembling bs t) (b : Byte) :
    s.hostByte b false = s.hostHunts.linkFault .check 0 0 := by
  simp only [State.hostByte, hx, Bool.false_eq_true, if_false]

/-! ## Gaps and invalid frames -/

theorem gapReached_of_gap {r : Receiver} {bs : List Byte} {t now : Nat} (hx : r = .assembling bs t) (hn : t + 20 ≤ now) :
    r.gapReached now = true := by
  subst hx
  exact decide_eq_true hn

theorem exec_hostByteTimeout {s : State} {bs : List Byte} {t : Nat} (hr : s.rstHeld = false) (hx : s.host.rx = .assembling bs t)
    (hn : t + 20 ≤ s.now) : exec .hostByteTimeout s = .next (finish (s.hostHunts.linkFault .length 0 0)) := by
  change execHostByteTimeout s = _
  rw [execHostByteTimeout, event_running _ hr, if_pos (gapReached_of_gap hx hn)]

theorem exec_headByteTimeout {s : State} {i : LaneIdx} {bs : List Byte} {t : Nat} (hr : s.rstHeld = false)
    (hx : (s.lane i).headRx = .assembling bs t) (hn : t + 20 ≤ s.now) :
    exec (.headByteTimeout i) s = .next (finish (s.headHunts i)) := by
  change execHeadByteTimeout i s = _
  rw [execHeadByteTimeout, event_running _ hr, if_pos (gapReached_of_gap hx hn)]

theorem exec_stationByteTimeout {s : State} {x : StationId} {bs : List Byte} {t : Nat} (hr : s.rstHeld = false)
    (hx : (s.station x).rx = .assembling bs t) (hn : t + 20 ≤ s.now) :
    exec (.stationByteTimeout x) s = .next (finish (s.modStation x (fun u => { u with rx := .hunting }))) := by
  change execStationByteTimeout x s = _
  rw [execStationByteTimeout, event_running _ hr, if_pos (gapReached_of_gap hx hn)]

theorem exec_headFrameDiscard_invalid {s : State} (i : LaneIdx) {f : Frame} {check : Check} (hr : s.rstHeld = false)
    (hf : headFrameOf f check = none) : exec (.headFrameDiscard i f check) s = .next (finish (s.headHunts i)) := by
  change execHeadFrameDiscard i f check s = _
  rw [execHeadFrameDiscard, event_running _ hr, hf]
  rfl

theorem exec_stationFrameDiscard_invalid {s : State} (x : StationId) {f : Frame} {check : Check} (hr : s.rstHeld = false)
    (hf : stationFrameOf f check = none) :
    exec (.stationFrameDiscard x f check) s = .next (finish (s.modStation x (fun u => { u with rx := .hunting }))) := by
  change execStationFrameDiscard x f check s = _
  rw [execStationFrameDiscard, event_running _ hr, hf]
  rfl

/-! ## Frames valid after all (log 20) -/

/-- A valid frame of a head has its fields in range (R19). -/
theorem validHead_of_headFrameOf {f : Frame} {check : Check} {h : HeadFrame} (hf : headFrameOf f check = some h) : validHead h = some h := by
  unfold headFrameOf at hf
  split at hf
  · exact if_pos (Option.filter_eq_some_iff.1 hf).2
  · cases hf

/-- A valid frame of a station has its fields in range (R145). -/
theorem validStation_of_stationFrameOf {f : Frame} {check : Check} {h : StationFrame} (hf : stationFrameOf f check = some h) :
    validStation h = some h := by
  unfold stationFrameOf at hf
  split at hf
  · exact if_pos (Option.filter_eq_some_iff.1 hf).2
  · cases hf

theorem exec_headFrameDiscard_valid (s : State) (i : LaneIdx) {f : Frame} {check : Check} {h : HeadFrame}
    (hf : headFrameOf f check = some h) :
    exec (.headFrameDiscard i f check) s = event (fun s => s.headFrame i (validHead h)) s := by
  rw [validHead_of_headFrameOf hf, ← hf]
  rfl

theorem exec_stationFrameDiscard_valid (s : State) (x : StationId) {f : Frame} {check : Check} {h : StationFrame}
    (hf : stationFrameOf f check = some h) :
    exec (.stationFrameDiscard x f check) s = event (fun s => s.stationFrame x (validStation h)) s := by
  rw [validStation_of_stationFrameOf hf, ← hf]
  rfl

end Sys2Proof.Machine
end

section
/-! The statements about the sensor heads, Identity Capture and the link receivers, settled. -/

namespace Sys2Proof.Machine

/-- Settles O15: the host receiver by what it holds, the discards by their row, and a valid frame by its kind. -/
theorem linkReceivers : Obligations.LinkReceivers := by
  refine ⟨⟨fun s f check hr hf => ⟨fun hc hq => ?_, fun hc hq => ?_, fun hc => ?_⟩,
      fun s b hr => ⟨fun hx hb => ?_, fun hx hb => ?_, fun hx => ?_, fun t hx hb => ?_, fun t hx hb => ?_, fun bs t hx => ?_⟩⟩,
    ⟨⟨fun s bs t hr hx hn => exec_hostByteTimeout hr hx hn, fun s i bs t hr hx hn => exec_headByteTimeout hr hx hn,
        fun s x bs t hr hx hn => exec_stationByteTimeout hr hx hn⟩,
      fun s i f check hr hf => exec_headFrameDiscard_invalid i hr hf, fun s x f check hr hf => exec_stationFrameDiscard_invalid x hr hf,
      fun f check hc => ⟨if_neg hc, if_neg hc⟩⟩,
    fun s i f check => ⟨fun o t n => exec_headFrameDiscard_valid s i, fun form v => exec_headFrameDiscard_valid s i,
      fun c => exec_headFrameDiscard_valid s i⟩,
    fun s x f check => ⟨exec_stationFrameDiscard_valid s x, fun n c => exec_stationFrameDiscard_valid s x,
      fun p => exec_stationFrameDiscard_valid s x, exec_stationFrameDiscard_valid s x, exec_stationFrameDiscard_valid s x,
      exec_stationFrameDiscard_valid s x, fun c => exec_stationFrameDiscard_valid s x⟩⟩
  · have room : s.hostHunts.host.reqBuf.length < Config.requestBuffer := hq
    rw [exec_hostFrame f check hr, hc, frameCompletes_good s hf, State.bufferRequest, if_pos room]
    rfl
  · have full : ¬ s.hostHunts.host.reqBuf.length < Config.requestBuffer := Nat.not_lt.2 hq
    rw [exec_hostFrame f check hr, hc, frameCompletes_good s hf, State.bufferRequest, if_neg full]
    rfl
  · rw [exec_hostFrame f check hr, frameCompletes_bad s hf hc]
    rfl
  · rw [exec_hostByteReceived b true hr, hostByte_hunting hx, if_pos ⟨rfl, hb⟩]
    rfl
  · rw [exec_hostByteReceived b true hr, hostByte_hunting hx, if_neg (fun h => hb h.2)]
  · rw [exec_hostByteReceived b false hr, hostByte_hunting hx, if_neg (fun h => Bool.false_ne_true h.1)]
  · rw [exec_hostByteReceived b true hr, hostByte_length hx, if_neg (Nat.not_lt.2 hb)]
    rfl
  · rw [exec_hostByteReceived b true hr, hostByte_length hx, if_pos hb]
    rfl
  · rw [exec_hostByteReceived b false hr, hostByte_badStop hx]
    rfl

/-- Settles O25: each row of Table 2-3 by the lane that routing leaves, and a LOST head by its return. -/
theorem codeRouting : Obligations.CodeRouting := by
  refine ⟨fun s i o t n since it hr ho ht hn hp => ?_, fun s i o t n since hr ho ht hn hp => ?_,
    fun s i o t n hr ho ht hn => ⟨fun hoff => ?_, fun hl => ?_⟩⟩
  · intro it'
    refine ⟨fun hg => ?_, fun hg => ?_, fun x hg => ?_, fun hg hw => ?_⟩ <;> refine exec_codeFrame_present hr ⟨ho, ht, hn⟩ hp ?_
    · simp only [Lane.routeCode, Lane.heard, hg]; rfl
    · simp only [Lane.routeCode, Lane.heard, hg]; rfl
    · simp only [Lane.routeCode, Lane.heard, hg]; rfl
    · rw [routeCode_inGrace (l := (s.lane i).heard s.now) (.inr (.inl ⟨it, hg⟩)) hw]
      simp only [Lane.offerInGrace, Lane.heard, hg]; rfl
  · refine ⟨fun hg hw he => ?_, fun hg hw he => ?_, fun hg hw => ?_, fun hg => ?_⟩ <;>
      refine exec_codeFrame_present hr ⟨ho, ht, hn⟩ hp ?_
    · exact (routeCode_toHold (l := (s.lane i).heard s.now) hg hw _ _).trans (if_neg (Nat.ne_of_gt he))
    · exact (routeCode_toHold (l := (s.lane i).heard s.now) hg hw _ _).trans (if_pos he)
    · rw [routeCode_inGrace (l := (s.lane i).heard s.now) (hg.imp id .inr) hw]
      rcases hg with hg | ⟨seen, hg⟩ <;> (simp only [Lane.offerInGrace, Lane.heard, hg]; rfl)
    · exact routeCode_stray (l := (s.lane i).heard s.now) hg _ _
  · rw [exec_codeFrame i hr ho ht hn]
    simp only [State.codeArrives, lane_headHunts, hoff]
    rfl
  · refine ⟨_, exec_statusFrame_returns hr hl, ⟨s.now, ?_⟩, exec_codeFrame_lost hr ⟨ho, ht, hn⟩ hl⟩
    rw [lane_finish, lane_headReturns]
    rfl

/-- Settles O26: each frame by the head's state, a loss and a return read back through the entry and the notice. -/
theorem headFrames : Obligations.HeadFrames := by
  refine ⟨fun s i v hr hv => ⟨fun since hp => ?_, fun hl => ?_, fun hoff => ?_⟩,
    fun s i hr => ⟨fun since hp => exec_statusFrame_present hr hp, fun since c hp h1 hc => ?_, fun hl => ?_,
      fun c hl h1 hc => exec_statusFrame_lost hr hl h1 hc, fun c hoff hc => exec_statusFrame_off hr hoff hc⟩⟩
  · exact ⟨exec_measureFrame_present hr (Nat.zero_le 1) hv hp, exec_measureFrame_present hr (Nat.le_refl 1) hv hp⟩
  · exact ⟨exec_measureFrame_lost hr (Nat.zero_le 1) hv hl, exec_measureFrame_lost hr (Nat.le_refl 1) hv hl⟩
  · exact ⟨exec_measureFrame_off hr (Nat.zero_le 1) hv hoff, exec_measureFrame_off hr (Nat.le_refl 1) hv hoff⟩
  · refine ⟨_, exec_statusFrame_loses hr hp h1 hc, rfl, ?_⟩
    rw [lane_finish, lane_headLosing, lane_headHunts]
    exact ⟨rfl, rfl, rfl, rfl, getLast?_write _ i _ _⟩
  · refine ⟨_, exec_statusFrame_returns hr hl, ?_⟩
    rw [lane_finish, lane_headReturns, lane_headHunts]
    refine ⟨?_, getLast?_write _ i _ _, rfl⟩
    rw [State.headReturns, State.headHunts, modLane_modLane]
    rfl

/-- Settles O27: each timer by its event, the lane after a loss from the lane it leaves. -/
theorem timersEnd : Obligations.TimersEnd := by
  refine ⟨fun s i t hr hp hn => ?_, ⟨fun s i h hr he hn => exec_earlyHoldExpiry hr he hn, fun s i t hr hg hw hq hn => ?_,
    fun s i t hr hg hw hn => ?_⟩, fun s i e hr he hn => exec_rejectWindowExpiry hr he hn, fun s e rest hr hs hn => ?_⟩
  · refine ⟨_, exec_headSilence hr hp hn, rfl, ?_⟩
    rw [lane_finish, lane_headLosing]
    exact ⟨rfl, rfl, rfl, rfl, (mapItems_markLost _).symm, rfl, rfl⟩
  · rw [exec_lateGraceExpiry hr hg hn, endGrace_of_none_waiting hw]
    have noDrain : ((s.modLane i (fun l => { l with grace := none })).lane i).quietPoint = none := by rw [lane_modLane_same]; exact hq
    rw [quietTest_of_quietPoint_none noDrain]
  · rw [exec_lateGraceExpiry hr hg hn, endGrace_of_none_waiting hw]
  · exact exec_sightingAged hr hs hn

/-- Settles O28: each clause by the equation of what it speaks of, the completion by the cells where B clears, and the stray by the lane it leaves. -/
theorem handoverRule : Obligations.HandoverRule := by
  refine ⟨fun kind it => ?_, fun s i t g w hr hw hg => ⟨fun hn => ?_, fun hgate hs hh hn => ?_⟩, fun s i t it g hr hs hh hn hgate => ?_,
    fun s i it completed => ?_, fun s i => ⟨fun hw => ?_, fun w hw => ?_⟩, fun s i t w hr hg hw hd hn => ?_⟩
  · intro fits
    have sampled : sampleInRange kind it.sample = fits := by
      simp only [fits]
      cases it.sample with
      | none => rfl
      | some m => exact sampleInRange_some kind m
    simp only [settleCapture, sampled]
    refine ⟨fun h => if_pos h, fun h hc => ?_, fun h hc => ?_, fun c h hc hf => ?_, fun c m h hc hf => ?_⟩
    all_goals simp only [h, hc, Bool.false_eq_true, if_false]
    · rw [hf]
    · rw [hf]
  · rw [exec_lateGraceExpiry hr hg hn, endGrace_of_waiting hw]
  · rw [exec_aBlocks hr (by rw [hgate]; rfl) hs hh hn, aBlocks_idle (by rw [lane_modLane_same]; exact hgate),
      noteABlock_of_waiting (by rw [lane_modLane_same]; exact hw), modLane_modLane,
      quietTest_of_gate_ne_idle (by rw [lane_modLane_same]; exact nofun)]
    rfl
  · intro passed
    obtain ⟨grace, cell⟩ := exec_bClears_completes hr hs hh hn hgate
    refine ⟨fun hg => ?_, fun hg => ?_⟩
    · have ended : ¬ (s.lane i).grace.isSome = true := by rw [hg]; exact nofun
      rw [cell, complete_eq, grace, if_neg ended, modLane_modLane]
      rfl
    · rw [cell, complete_eq, grace, if_pos (Option.isSome_iff_ne_none.2 hg), modLane_modLane,
        quietTest_of_grace (by rw [lane_modLane_same]; exact hg)]
      rfl
  · intro capture item counted
    have counted_eq : counted = s.countHandover i capture.cause :=
      congrArg (State.accumulate · i) (modLane_congr (by cases capture <;> rfl))
    refine ⟨fun d hd hs => ?_, fun h1 h2 => ?_⟩
    · rw [handOver_of_counting (countingDrop_eq_some hd hs), counted_eq]
      rfl
    · rw [handOver_of_not_counting (countingDrop_eq_none h1 h2), counted_eq, State.stray, State.seqNext, journal_countHandover,
        countHandover_now]
      rfl
  · exact ⟨endGrace_of_none_waiting hw, by rw [State.handOverWaiting, hw]; rfl⟩
  · exact ⟨endGrace_of_waiting hw, by rw [State.handOverWaiting, hw]; rfl⟩
  · have hd' : ((s.modLane i (fun l => { l with grace := none, waiting := none })).lane i).drop = none := by rw [lane_modLane_same]; exact hd
    obtain ⟨peak, latch, counters, body, lane, stray, kind⟩ := lane_handOver_stray hd' w.item w.completed
    obtain ⟨sightings, store, tables⟩ := handOver_stray_keeps hd' w.item w.completed
    rw [lane_modLane_same] at lane stray
    refine ⟨_, exec_lateGraceExpiry hr hg hn, ?_⟩
    rw [endGrace_of_waiting hw, quietTest_of_quietPoint_none (by rw [lane]; simp only [Lane.quietPoint, hd]), lane_finish, lane,
      finish_sightings, finish_store, finish_tables]
    exact ⟨rfl, rfl, hd, rfl, stray, rfl, ⟨body, getLast?_write _ i _ _, kind⟩, rfl, sightings, store, tables⟩

end Sys2Proof.Machine
end

section
/-! SUPPORT. The examinations of the four tables (R58, R59): what one examination leaves of a table, at every index or at one, what it reports
and counts, and what a search of an examined table finds. -/

namespace Sys2Proof.Machine

/-! ## One entry and one table -/

/-- The entry at an index is EMPTY, UNUSABLE, or agrees with its check (R58). -/
def agreesAt {α : Type} (t : Table α) (k : Nat) : Prop := ∀ c w, assocGet t k = some (.usable c w) → c = w

theorem agreesAt_of_usable {α : Type} {t : Table α} {k : Nat} {e : α} (h : assocGet t k = some (.usable e e)) : agreesAt t k := by
  intro c w hcw
  rw [h] at hcw
  cases hcw
  rfl

theorem agreesAt_of_unusable {α : Type} {t : Table α} {k : Nat} (h : assocGet t k = some .unusable) : agreesAt t k := by
  intro c w hcw
  rw [h] at hcw
  cases hcw

theorem agreesAt_of_empty {α : Type} {t : Table α} {k : Nat} (h : assocGet t k = none) : agreesAt t k := by
  intro c w hcw
  rw [h] at hcw
  cases hcw

section
variable {α : Type} [DecidableEq α]

theorem fails_usable_iff {c w : α} : (TableEntry.usable c w).fails = true ↔ c ≠ w := decide_eq_true_iff

theorem examined_usable (c w : α) : (TableEntry.usable c w).examined = if c = w then .usable c w else .unusable := by
  by_cases h : c = w
  · simp only [TableEntry.examined, TableEntry.fails, h, ne_eq, not_true_eq_false, decide_false, Bool.false_eq_true, if_false, if_true]
  · simp only [TableEntry.examined, TableEntry.fails, h, ne_eq, not_false_eq_true, decide_true, if_false, if_true]

@[simp] theorem examined_fresh (c : α) : (TableEntry.usable c c).examined = .usable c c := by rw [examined_usable, if_pos rfl]

theorem examined_of_ne {c w : α} (h : c ≠ w) : (TableEntry.usable c w).examined = .unusable := by rw [examined_usable, if_neg h]

@[simp] theorem examined_unusable : (TableEntry.unusable : TableEntry α).examined = .unusable := rfl

theorem sweep_eq_checkedTable (t : Table α) : sweep t = checkedTable t := by
  refine List.map_congr_left fun p _ => ?_
  obtain ⟨k, e⟩ := p
  cases e with
  | usable c w => exact congrArg (Prod.mk k) (examined_usable c w)
  | unusable => rfl

theorem failing_eq_brokenEntries (t : Table α) : failing t = brokenEntries t := by
  refine congrArg (List.map Prod.fst) (List.filter_congr fun p _ => ?_)
  obtain ⟨k, e⟩ := p
  cases e <;> rfl

/-- An examination at one index changes an entry whose check disagrees and no other (R59). -/
theorem sweepAt_of_ne {t : Table α} {k : Nat} {c w : α} (h : assocGet t k = some (.usable c w)) (hne : c ≠ w) :
    sweepAt t k = assocSet t k .unusable ∧ failingAt t k = [k] := by
  have fails : (TableEntry.usable c w).fails = true := fails_usable_iff.2 hne
  simp only [sweepAt, failingAt, h, fails, if_true, and_self]

theorem sweepAt_of_agrees {t : Table α} {k : Nat} (h : agreesAt t k) : sweepAt t k = t ∧ failingAt t k = [] := by
  have passes : ∀ e, assocGet t k = some e → e.fails = false := by
    intro e he
    cases e with
    | usable c w => exact decide_eq_false (fun hne => hne (h c w he))
    | unusable => rfl
  unfold sweepAt failingAt
  cases he : assocGet t k with
  | none => exact ⟨rfl, rfl⟩
  | some e => simp only [passes e he, Bool.false_eq_true, if_false, and_self]

/-- What a read finds where an index has just been examined. -/
theorem assocGet_sweepAt (t : Table α) (k : Nat) : assocGet (sweepAt t k) k = (assocGet t k).map TableEntry.examined := by
  cases he : assocGet t k with
  | none => rw [(sweepAt_of_agrees (agreesAt_of_empty he)).1, he]; rfl
  | some e =>
    cases e with
    | unusable => rw [(sweepAt_of_agrees (agreesAt_of_unusable he)).1, he]; rfl
    | usable c w =>
      by_cases hcw : c = w
      · subst hcw
        rw [(sweepAt_of_agrees (agreesAt_of_usable he)).1, he, Option.map_some, examined_fresh]
      · rw [(sweepAt_of_ne he hcw).1, assocGet_assocSet_same, Option.map_some, examined_of_ne hcw]

end

/-! ## What an examination reports -/

/-- The same part with other tables and another count of table faults. -/
def State.withFaults (s : State) (t : Tables) (n : Nat) : State := { s with tables := t, yard := { s.yard with tableFaults := n } }

theorem enqueue_withFaults (s : State) (t : Tables) (n : Nat) (b : NoticeBody) :
    (s.withFaults t n).enqueue b = (s.enqueue b).withFaults t n := by
  by_cases latched : s.host.latch = true
  · simp only [State.enqueue, State.withFaults, latched, if_true]
    rfl
  · by_cases room : s.host.notices.length < Config.noticeQueue - 1 <;>
      simp only [State.enqueue, State.withFaults, latched, room, if_true, if_false] <;> rfl

/-- Posting a notice neither reads nor writes the tables and the count of table faults. -/
theorem post_withFaults (s : State) (t : Tables) (n : Nat) (b : NoticeBody) : (s.withFaults t n).post b = (s.post b).withFaults t n := by
  cases enabled : s.host.filter.getLsbD b.group with
  | true => rw [State.post, State.post, enabled, if_pos rfl, ← enqueue_withFaults]; exact if_pos enabled
  | false => rw [post_disabled enabled]; exact post_disabled enabled

/-- The faults of an examination, the notices apart from the count (R59). -/
theorem tableFaults_withFaults (s : State) (t : Tables) (n : Nat) (name : TableName) (ks : List Nat) :
    (s.withFaults t n).tableFaults name ks =
      (ks.foldl (fun u k => u.post (.tableFault name k)) s).withFaults t (ks.foldl (fun m _ => raise32 m) n) := by
  unfold State.tableFaults
  induction ks generalizing s n with
  | nil => rfl
  | cons k ks ih =>
    have counted : ((s.withFaults t n).post (.tableFault name k)).countYard .tableFaults =
        (s.post (.tableFault name k)).withFaults t (raise32 n) := by
      rw [post_withFaults]; rfl
    rw [List.foldl_cons, counted, ih]
    rfl

theorem raise32_eq {n : Nat} (h : n < 4294967296) : raise32 n = (n + 1) % 4294967296 := by
  rw [raise32]
  by_cases top : n = Config.word32Max
  · rw [if_pos top, top]; rfl
  · rw [if_neg top]
    simp only [Config.word32Max] at top
    omega

/-- A counter of 32 bits after one rise for each of these entries (R171). -/
theorem foldl_raise32 {n : Nat} (h : n < 4294967296) (ks : List Nat) :
    ks.foldl (fun m _ => raise32 m) n = (n + ks.length) % 4294967296 := by
  induction ks generalizing n with
  | nil => exact (Nat.mod_eq_of_lt h).symm
  | cons k ks ih =>
    rw [List.foldl_cons, raise32_eq h, ih (Nat.mod_lt _ (by decide)), List.length_cons]
    omega

/-- An examination that finds these entries failing reports them, whatever it leaves of the tables (R59). -/
theorem faultsReported_tableFaults (s : State) (t : Tables) (name : TableName) (ks : List Nat) :
    s.faultsReported ({ s with tables := t }.tableFaults name ks) name ks := by
  have examined := tableFaults_withFaults s t s.yard.tableFaults name ks
  have posted : ks.foldl (fun u k => u.post (.tableFault name k)) s = s.postAll (ks.map (.tableFault name)) := List.foldl_map.symm
  obtain ⟨host, yard, frame, -⟩ := postAll_cases s (ks.map (.tableFault name))
  change s.faultsReported ((s.withFaults t s.yard.tableFaults).tableFaults name ks) name ks
  rw [examined]
  refine ⟨rfl, fun h => foldl_raise32 h ks, rfl, ?_⟩
  rw [posted, frame]
  rfl

@[simp] theorem tableFaults_tables (s : State) (name : TableName) (ks : List Nat) : (s.tableFaults name ks).tables = s.tables := by
  unfold State.tableFaults
  induction ks generalizing s with
  | nil => rfl
  | cons k ks ih => rw [List.foldl_cons, ih, countYard_tables, post_tables]

/-! ## The tables an examination of one index leaves -/

@[simp] theorem examineClassAt_tables (s : State) (k : Nat) :
    (s.examineClassAt k).tables = { s.tables with classes := sweepAt s.tables.classes k } := tableFaults_tables _ _ _
@[simp] theorem examineMarkAt_tables (s : State) (k : Nat) :
    (s.examineMarkAt k).tables = { s.tables with marks := sweepAt s.tables.marks k } := tableFaults_tables _ _ _
@[simp] theorem examinePoolAt_tables (s : State) (k : Nat) :
    (s.examinePoolAt k).tables = { s.tables with pools := sweepAt s.tables.pools k } := tableFaults_tables _ _ _
@[simp] theorem examineAccountAt_tables (s : State) (k : Nat) :
    (s.examineAccountAt k).tables = { s.tables with accounts := sweepAt s.tables.accounts k } := tableFaults_tables _ _ _

/-! ## Any of the four tables

`put` writes the examined table back among the others. -/

section
variable {α : Type} [DecidableEq α] (s : State) (put : Table α → Tables) (name : TableName) {t : Table α} {k : Nat}

/-- An examination of a whole table (R58, R59). -/
theorem examined_reported (t : Table α) :
    ({ s with tables := put (sweep t) }.tableFaults name (failing t)).tables = put (checkedTable t) ∧
      s.faultsReported ({ s with tables := put (sweep t) }.tableFaults name (failing t)) name (brokenEntries t) := by
  rw [tableFaults_tables, sweep_eq_checkedTable, failing_eq_brokenEntries]
  exact ⟨rfl, faultsReported_tableFaults s _ _ _⟩

/-- An examination at the index of an entry whose check disagrees (R59). -/
theorem examinedAt_reported {c w : α} (h : assocGet t k = some (.usable c w)) (hne : c ≠ w) :
    ({ s with tables := put (sweepAt t k) }.tableFaults name (failingAt t k)).tables = put (assocSet t k .unusable) ∧
      s.faultsReported ({ s with tables := put (sweepAt t k) }.tableFaults name (failingAt t k)) name [k] := by
  obtain ⟨swept, found⟩ := sweepAt_of_ne h hne
  rw [tableFaults_tables, swept, found]
  exact ⟨rfl, faultsReported_tableFaults s _ _ _⟩

/-- An examination at an index that finds nothing changes nothing (R58). -/
theorem examinedAt_of_agrees (h : agreesAt t k) (hput : put t = s.tables) :
    { s with tables := put (sweepAt t k) }.tableFaults name (failingAt t k) = s := by
  obtain ⟨swept, found⟩ := sweepAt_of_agrees h
  rw [swept, found, hput]
  rfl

end

theorem examineClassAt_of_agrees {s : State} {k : Nat} (h : agreesAt s.tables.classes k) : s.examineClassAt k = s :=
  examinedAt_of_agrees s (fun t => { s.tables with classes := t }) .cls h rfl

theorem examineMarkAt_of_agrees {s : State} {k : Nat} (h : agreesAt s.tables.marks k) : s.examineMarkAt k = s :=
  examinedAt_of_agrees s (fun t => { s.tables with marks := t }) .mark h rfl

theorem examinePoolAt_of_agrees {s : State} {k : Nat} (h : agreesAt s.tables.pools k) : s.examinePoolAt k = s :=
  examinedAt_of_agrees s (fun t => { s.tables with pools := t }) .pool h rfl

theorem examineAccountAt_of_agrees {s : State} {k : Nat} (h : agreesAt s.tables.accounts k) : s.examineAccountAt k = s :=
  examinedAt_of_agrees s (fun t => { s.tables with accounts := t }) .account h rfl

/-! ## Searches -/

/-- A search finds a USABLE entry that meets its test (R58). -/
theorem findKey_eq_some {α : Type} {p : α → Bool} {t : Table α} {k : Nat} {e : α} (h : findKey p t = some (k, e)) :
    (∃ w, (k, .usable e w) ∈ t) ∧ p e = true := by
  induction t with
  | nil => cases h
  | cons q t ih =>
    obtain ⟨k', x⟩ := q
    cases x with
    | unusable =>
      obtain ⟨⟨w, hw⟩, hp⟩ := ih h
      exact ⟨⟨w, List.mem_cons_of_mem _ hw⟩, hp⟩
    | usable c w' =>
      by_cases hc : p c = true
      · rw [findKey, if_pos hc] at h
        cases h
        exact ⟨⟨w', List.mem_cons_self⟩, hc⟩
      · rw [findKey, if_neg hc] at h
        obtain ⟨⟨w, hw⟩, hp⟩ := ih h
        exact ⟨⟨w, List.mem_cons_of_mem _ hw⟩, hp⟩

/-- A search that finds nothing leaves no USABLE entry that meets its test. -/
theorem findKey_eq_none {α : Type} {p : α → Bool} {t : Table α} (h : findKey p t = none) {k : Nat} {e w : α}
    (hm : (k, .usable e w) ∈ t) : p e = false := by
  induction t with
  | nil => cases hm
  | cons q t ih =>
    obtain ⟨k', x⟩ := q
    cases x with
    | unusable =>
      rcases List.mem_cons.1 hm with hm | hm
      · cases hm
      · exact ih h hm
    | usable c w' =>
      by_cases hc : p c = true
      · rw [findKey, if_pos hc] at h
        cases h
      · rw [findKey, if_neg hc] at h
        rcases List.mem_cons.1 hm with hm | hm
        · cases hm
          exact Bool.eq_false_iff.2 hc
        · exact ih h hm

/-- The pool at a number is valid when its entry is USABLE (R68). -/
theorem poolAt_eq (s : State) (n : Nat) : s.poolAt n = (assocGet s.tables.pools n).bind TableEntry.contents? := by
  unfold State.poolAt
  cases assocGet s.tables.pools n <;> rfl

end Sys2Proof.Machine
end

section
/-! SUPPORT. The requests on the four tables, one case after another (R61 to R63, R65 to R70): the answer of each, and the reply it is taken with. -/

namespace Sys2Proof.Machine

/-- A request that nothing follows is taken with the reply of what its block answers (R176). -/
theorem request_answered {c : Instr} {f : Frame} {s u : State} {act : State → Answered} {status : Status} {r : Result} (hs : s.ready)
    (hf : encodeRequest c = some f) (ha : act s = ⟨u, status, r⟩) :
    request c act id s = .next (finish (u.replied f.kind f.tag status r)) := by
  rw [request_ready act id hs hf]
  by_cases ok : status = .ok
  · rw [takeRequest_ok (by rw [ha]; exact ok), ha, ok]
    rfl
  · rw [takeRequest_refused (by rw [ha]; exact ok), ha]

/-! ## The replies -/

section
variable {s u : State} {tag : Byte} {status : Status} {r : Result} (hs : s.ready)
include hs

theorem exec_classPut {n : Nat} {args : ClassArgs} (ha : s.classPut n args = ⟨u, status, r⟩) :
    exec (.classPut tag n args) s = .next (finish (u.replied 0x20 tag status r)) :=
  request_answered (c := .classPut tag n args) (act := fun s => s.classPut n args) hs rfl ha

theorem exec_classRemove {n : Nat} (ha : s.classRemove n = ⟨u, status, r⟩) :
    exec (.classRemove tag n) s = .next (finish (u.replied 0x21 tag status r)) :=
  request_answered (c := .classRemove tag n) (act := fun s => s.classRemove n) hs rfl ha

theorem exec_classGet {n : Nat} (ha : s.classGet n = ⟨u, status, r⟩) :
    exec (.classGet tag n) s = .next (finish (u.replied 0x22 tag status r)) :=
  request_answered (c := .classGet tag n) (act := fun s => s.classGet n) hs rfl ha

theorem exec_markPut {o n code : Nat} (ha : s.markPut o n code = ⟨u, status, r⟩) :
    exec (.markPut tag o n code) s = .next (finish (u.replied 0x28 tag status r)) :=
  request_answered (c := .markPut tag o n code) (act := fun s => s.markPut o n code) hs rfl ha

theorem exec_markRemove {x : MarkSel} (ha : s.markRemove x = ⟨u, status, r⟩) :
    exec (.markRemove tag x) s = .next (finish (u.replied 0x29 tag status r)) :=
  request_answered (c := .markRemove tag x) (act := fun s => s.markRemove x) hs rfl ha

theorem exec_markGet {x : MarkSel} (ha : s.markGet x = ⟨u, status, r⟩) :
    exec (.markGet tag x) s = .next (finish (u.replied 0x2A tag status r)) :=
  request_answered (c := .markGet tag x) (act := fun s => s.markGet x) hs rfl ha

theorem exec_poolPut {n : Nat} {accepted : BitVec 64} {overrides : List Override} (ha : s.poolPut n accepted overrides = ⟨u, status, r⟩) :
    exec (.poolPut tag n accepted overrides) s = .next (finish (u.replied 0x30 tag status r)) :=
  request_answered (c := .poolPut tag n accepted overrides) (act := fun s => s.poolPut n accepted overrides) hs rfl ha

theorem exec_poolRemove {n : Nat} (ha : s.poolRemove n = ⟨u, status, r⟩) :
    exec (.poolRemove tag n) s = .next (finish (u.replied 0x31 tag status r)) :=
  request_answered (c := .poolRemove tag n) (act := fun s => s.poolRemove n) hs rfl ha

theorem exec_poolGet {n : Nat} (ha : s.poolGet n = ⟨u, status, r⟩) :
    exec (.poolGet tag n) s = .next (finish (u.replied 0x32 tag status r)) :=
  request_answered (c := .poolGet tag n) (act := fun s => s.poolGet n) hs rfl ha

theorem exec_accountPut {n : Nat} {args : AccountArgs} (ha : s.accountPut n args = ⟨u, status, r⟩) :
    exec (.accountPut tag n args) s = .next (finish (u.replied 0x38 tag status r)) :=
  request_answered (c := .accountPut tag n args) (act := fun s => s.accountPut n args) hs rfl ha

theorem exec_accountRemove {x : AccountSel} (ha : s.accountRemove x = ⟨u, status, r⟩) :
    exec (.accountRemove tag x) s = .next (finish (u.replied 0x39 tag status r)) :=
  request_answered (c := .accountRemove tag x) (act := fun s => s.accountRemove x) hs rfl ha

theorem exec_accountGet {x : AccountSel} (ha : s.accountGet x = ⟨u, status, r⟩) :
    exec (.accountGet tag x) s = .next (finish (u.replied 0x3A tag status r)) :=
  request_answered (c := .accountGet tag x) (act := fun s => s.accountGet x) hs rfl ha

end

/-! ## Ranges and places -/

theorem within_of_le {lo hi n : Nat} (h1 : lo ≤ n) (h2 : n ≤ hi) : within lo hi n = true := by
  rw [within, decide_eq_true h1, decide_eq_true h2]
  rfl

theorem within_zero_of_le {hi n : Nat} (h : n ≤ hi) : within 0 hi n = true := within_of_le (Nat.zero_le n) h

theorem markOf_of_le_one {code : Nat} (h : code ≤ 1) : ∃ mark, markOf code = some mark := by
  match code, h with
  | 0, _ => exact ⟨.barred, rfl⟩
  | 1, _ => exact ⟨.inspect, rfl⟩

/-- The lowest index below `n` where a test of the slot holds. -/
theorem find?_slot_eq_some {α : Type} {p : Option (TableEntry α) → Bool} {e : Option (TableEntry α)} (hp : ∀ x, p x = true ↔ x = e)
    {n k : Nat} {t : Table α} : (List.range n).find? (fun j => p (assocGet t j)) = some k ↔
      k < n ∧ assocGet t k = e ∧ ∀ j, j < k → assocGet t j ≠ e := by
  rw [List.find?_range_eq_some]
  simp only [hp, List.mem_range, Bool.not_eq_true', ← Bool.not_eq_true, ne_eq, and_left_comm]

theorem find?_slot_eq_none {α : Type} {p : Option (TableEntry α) → Bool} {e : Option (TableEntry α)} (hp : ∀ x, p x = true ↔ x = e)
    {n : Nat} {t : Table α} : (List.range n).find? (fun j => p (assocGet t j)) = none ↔ ∀ j, j < n → assocGet t j ≠ e := by
  rw [List.find?_range_eq_none]
  simp only [hp, Bool.not_eq_true', ← Bool.not_eq_true, ne_eq]

theorem lowestFree_eq_some {α : Type} {n k : Nat} {t : Table α} :
    lowestFree n t = some k ↔ k < n ∧ assocGet t k = none ∧ ∀ j, j < k → assocGet t j ≠ none :=
  find?_slot_eq_some (p := Option.isNone) fun _ => Option.isNone_iff_eq_none

theorem lowestFree_eq_none {α : Type} {n : Nat} {t : Table α} : lowestFree n t = none ↔ ∀ j, j < n → assocGet t j ≠ none :=
  find?_slot_eq_none (p := Option.isNone) fun _ => Option.isNone_iff_eq_none

/-- A slot is UNUSABLE: the test of `lowestUnusable` at one index. -/
def isUnusable {α : Type} : Option (TableEntry α) → Bool
  | some .unusable => true
  | _ => false

theorem isUnusable_iff {α : Type} (e : Option (TableEntry α)) : isUnusable e = true ↔ e = some .unusable := by
  match e with
  | none => exact ⟨nofun, nofun⟩
  | some (.usable c w) => exact ⟨nofun, nofun⟩
  | some .unusable => exact ⟨fun _ => rfl, fun _ => rfl⟩

theorem lowestUnusable_eq {α : Type} (n : Nat) (t : Table α) :
    lowestUnusable n t = (List.range n).find? (fun k => isUnusable (assocGet t k)) := by
  refine congrArg ((List.range n).find? ·) (funext fun k => ?_)
  cases assocGet t k with
  | none => rfl
  | some e => cases e <;> rfl

theorem lowestUnusable_eq_some {α : Type} {n k : Nat} {t : Table α} :
    lowestUnusable n t = some k ↔ k < n ∧ assocGet t k = some .unusable ∧ ∀ j, j < k → assocGet t j ≠ some .unusable := by
  rw [lowestUnusable_eq]
  exact find?_slot_eq_some isUnusable_iff

theorem lowestUnusable_eq_none {α : Type} {n : Nat} {t : Table α} :
    lowestUnusable n t = none ↔ ∀ j, j < n → assocGet t j ≠ some .unusable := by
  rw [lowestUnusable_eq]
  exact find?_slot_eq_none isUnusable_iff

/-- Where a put request writes a key: over the entry that holds it, or else where a new key goes (R65, R69). -/
def placeFor {α : Type} (n : Nat) (found : Option (Nat × α)) (t : Table α) : Option Nat :=
  match found with
  | some (k, _) => some k
  | none => slotFor n t

section
variable {α : Type} {n k : Nat} {t : Table α}

theorem placeFor_found (e : α) : placeFor n (some (k, e)) t = some k := rfl

theorem placeFor_of_free (h : lowestFree n t = some k) : placeFor n none t = some k := by
  rw [placeFor, slotFor, h]

theorem placeFor_of_unusable (hf : lowestFree n t = none) (h : lowestUnusable n t = some k) : placeFor n none t = some k := by
  rw [placeFor, slotFor, hf, h]

theorem placeFor_of_full (hf : lowestFree n t = none) (h : lowestUnusable n t = none) : placeFor n none t = none := by
  rw [placeFor, slotFor, hf, h]

end

/-! ## The Class Table -/

section
variable {s : State} {n : Nat} (hn : n ≤ 63)
include hn

theorem classPut_of_absent {args : ClassArgs} {e : ClassEntry} (he : classEntryOf args = some e)
    (h : findKey (fun o => decide (o.owner = e.owner) && decide (o.type = e.type)) (assocErase s.examineClasses.tables.classes n) = none) :
    s.classPut n args = ⟨s.examineClasses.setClasses (assocSet s.examineClasses.tables.classes n (.usable e e)), .ok, .none⟩ := by
  simp only [State.classPut, he, within_zero_of_le hn, h, if_true, Option.isSome_none, Bool.false_eq_true, if_false, TableEntry.fresh]

theorem classPut_of_elsewhere {args : ClassArgs} {e : ClassEntry} {p : Nat × ClassEntry} (he : classEntryOf args = some e)
    (h : findKey (fun o => decide (o.owner = e.owner) && decide (o.type = e.type)) (assocErase s.examineClasses.tables.classes n) = some p) :
    s.classPut n args = ⟨s.examineClasses, .duplicate, .none⟩ := by
  simp only [State.classPut, he, within_zero_of_le hn, h, if_true, Option.isSome_some, refuse]

theorem classRemove_of_some {e : TableEntry ClassEntry} (h : assocGet s.tables.classes n = some e) :
    s.classRemove n = ⟨s.setClasses (assocErase s.tables.classes n), .ok, .none⟩ := by
  simp only [State.classRemove, within_zero_of_le hn, h, if_true]

theorem classRemove_of_none (h : assocGet s.tables.classes n = none) : s.classRemove n = ⟨s, .absent, .none⟩ := by
  simp only [State.classRemove, within_zero_of_le hn, h, if_true, refuse]

theorem classGet_of_some {e : TableEntry ClassEntry} (h : assocGet s.tables.classes n = some e) :
    s.classGet n = ⟨s.examineClassAt n, .ok, .classEntry (some e.examined.report) s.tables.classes.length⟩ := by
  simp only [State.classGet, within_zero_of_le hn, if_true, examineClassAt_tables, assocGet_sweepAt, h, Option.map_some, occupied]

theorem classGet_of_none (h : assocGet s.tables.classes n = none) :
    s.classGet n = ⟨s, .absent, .classEntry none s.tables.classes.length⟩ := by
  simp only [State.classGet, within_zero_of_le hn, if_true, examineClassAt_of_agrees (agreesAt_of_empty h), h, occupied]

end

/-! ## The Mark List, by key -/

section
variable {s : State} {o n : Nat} (hk : keyInRange o n = true)
include hk

theorem markPut_of_place {code k : Nat} {mark : Mark} (hm : markOf code = some mark)
    (hp : placeFor 128 (s.examineMarks.markAt o n) s.examineMarks.tables.marks = some k) :
    s.markPut o n code =
      ⟨s.examineMarks.setMarks (assocSet s.examineMarks.tables.marks k (.usable ⟨o, n, mark⟩ ⟨o, n, mark⟩)), .ok, .slot k⟩ := by
  simp only [State.markPut, hm, hk, if_true, TableEntry.fresh, Config.markCount]
  cases found : s.examineMarks.markAt o n with
  | some p => rw [found] at hp; cases hp; rfl
  | none => rw [found, placeFor] at hp; simp only [hp]

theorem markPut_of_full {code : Nat} {mark : Mark} (hm : markOf code = some mark)
    (hp : placeFor 128 (s.examineMarks.markAt o n) s.examineMarks.tables.marks = none) :
    s.markPut o n code = ⟨s.examineMarks, .full, .none⟩ := by
  simp only [State.markPut, hm, hk, if_true, Config.markCount]
  cases found : s.examineMarks.markAt o n with
  | some p => rw [found] at hp; cases hp
  | none => rw [found, placeFor] at hp; simp only [hp, refuse]

theorem markRemove_key_of_some {k : Nat} {e : MarkEntry} (h : s.examineMarks.markAt o n = some (k, e)) :
    s.markRemove (.key o n) = ⟨s.examineMarks.setMarks (assocErase s.examineMarks.tables.marks k), .ok, .none⟩ := by
  simp only [State.markRemove, hk, h, if_true]

theorem markRemove_key_of_none (h : s.examineMarks.markAt o n = none) : s.markRemove (.key o n) = ⟨s.examineMarks, .absent, .none⟩ := by
  simp only [State.markRemove, hk, h, if_true, refuse]

theorem markGet_key_of_some {k : Nat} {e : MarkEntry} (h : s.examineMarks.markAt o n = some (k, e)) :
    s.markGet (.key o n) = ⟨s.examineMarks, .ok, .markEntry (some (k, .usable e)) s.tables.marks.length⟩ := by
  simp only [State.markGet, hk, h, if_true, occupied]

theorem markGet_key_of_none (h : s.examineMarks.markAt o n = none) :
    s.markGet (.key o n) = ⟨s.examineMarks, .absent, .markEntry none s.tables.marks.length⟩ := by
  simp only [State.markGet, hk, h, if_true, occupied]

end

/-! ## The Mark List, by slot -/

section
variable {s : State} {k : Nat} (hk : k ≤ 127)
include hk

theorem markRemove_slot_of_some {e : TableEntry MarkEntry} (h : assocGet s.tables.marks k = some e) :
    s.markRemove (.slot k) = ⟨s.setMarks (assocErase s.tables.marks k), .ok, .none⟩ := by
  simp only [State.markRemove, within_zero_of_le hk, h, if_true]

theorem markRemove_slot_of_none (h : assocGet s.tables.marks k = none) : s.markRemove (.slot k) = ⟨s, .absent, .none⟩ := by
  simp only [State.markRemove, within_zero_of_le hk, h, if_true, refuse]

theorem markGet_slot_of_some {e : TableEntry MarkEntry} (h : assocGet s.tables.marks k = some e) :
    s.markGet (.slot k) = ⟨s.examineMarkAt k, .ok, .markEntry (some (k, e.examined.report)) s.tables.marks.length⟩ := by
  simp only [State.markGet, within_zero_of_le hk, if_true, examineMarkAt_tables, assocGet_sweepAt, h, Option.map_some, occupied]

theorem markGet_slot_of_none (h : assocGet s.tables.marks k = none) :
    s.markGet (.slot k) = ⟨s, .absent, .markEntry none s.tables.marks.length⟩ := by
  simp only [State.markGet, within_zero_of_le hk, if_true, examineMarkAt_of_agrees (agreesAt_of_empty h), h, occupied]

end

/-! ## The Pool Table -/

section
variable {s : State} {n : Nat} (hn : n ≤ 15)
include hn

theorem poolPut_of_inRange {accepted : BitVec 64} {overrides : List Override} (h : poolInRange accepted overrides = true) :
    s.poolPut n accepted overrides =
      ⟨s.setPools (assocSet s.tables.pools n (.usable ⟨accepted, overrides⟩ ⟨accepted, overrides⟩)), .ok, .none⟩ := by
  simp only [State.poolPut, within_zero_of_le hn, h, Bool.and_self, if_true, TableEntry.fresh]

theorem poolRemove_of_unnamed {e : TableEntry PoolEntry} (he : assocGet s.tables.pools n = some e)
    (h : findKey (fun a => decide (a.pool = n)) s.examineAccounts.tables.accounts = none) :
    s.poolRemove n = ⟨s.examineAccounts.setPools (assocErase s.examineAccounts.tables.pools n), .ok, .none⟩ := by
  simp only [State.poolRemove, within_zero_of_le hn, he, State.poolNamed, h, if_true, Option.isSome_none, Bool.false_eq_true, if_false]

theorem poolRemove_of_named {e : TableEntry PoolEntry} {p : Nat × AccountEntry} (he : assocGet s.tables.pools n = some e)
    (h : findKey (fun a => decide (a.pool = n)) s.examineAccounts.tables.accounts = some p) :
    s.poolRemove n = ⟨s.examineAccounts, .inUse, .none⟩ := by
  simp only [State.poolRemove, within_zero_of_le hn, he, State.poolNamed, h, if_true, Option.isSome_some, refuse]

theorem poolRemove_of_none (h : assocGet s.tables.pools n = none) : s.poolRemove n = ⟨s, .absent, .none⟩ := by
  simp only [State.poolRemove, within_zero_of_le hn, h, if_true, refuse]

theorem poolGet_of_some {e : TableEntry PoolEntry} (h : assocGet s.tables.pools n = some e) :
    s.poolGet n = ⟨s.examinePoolAt n, .ok, .poolEntry e.examined.report⟩ := by
  simp only [State.poolGet, within_zero_of_le hn, if_true, examinePoolAt_tables, assocGet_sweepAt, h, Option.map_some]

theorem poolGet_of_none (h : assocGet s.tables.pools n = none) : s.poolGet n = ⟨s, .absent, .none⟩ := by
  simp only [State.poolGet, within_zero_of_le hn, if_true, examinePoolAt_of_agrees (agreesAt_of_empty h), h, refuse]

end

/-! ## The Account Table, by number -/

section
variable {s : State} {n : Nat} {args : AccountArgs} {e : AccountEntry} (he : accountEntryOf n args = some e)
include he

theorem accountPut_of_no_pool (hp : (s.examinePoolAt e.pool).poolAt e.pool = none) :
    s.accountPut n args = ⟨s.examinePoolAt e.pool, .absent, .none⟩ := by
  simp only [State.accountPut, he, hp, refuse]

variable {p : PoolEntry} (hp : (s.examinePoolAt e.pool).poolAt e.pool = some p)
include hp

theorem accountPut_of_place {k : Nat} (hk : placeFor 256 ((s.examinePoolAt e.pool).examineAccounts.accountOf n)
      (s.examinePoolAt e.pool).examineAccounts.tables.accounts = some k) :
    s.accountPut n args = ⟨(s.examinePoolAt e.pool).examineAccounts.setAccounts
      (assocSet (s.examinePoolAt e.pool).examineAccounts.tables.accounts k (.usable e e)), .ok, .slot k⟩ := by
  simp only [State.accountPut, he, hp, TableEntry.fresh, Config.accountCount]
  cases found : (s.examinePoolAt e.pool).examineAccounts.accountOf n with
  | some q => rw [found] at hk; cases hk; rfl
  | none => rw [found, placeFor] at hk; simp only [hk]

theorem accountPut_of_full (hk : placeFor 256 ((s.examinePoolAt e.pool).examineAccounts.accountOf n)
      (s.examinePoolAt e.pool).examineAccounts.tables.accounts = none) :
    s.accountPut n args = ⟨(s.examinePoolAt e.pool).examineAccounts, .full, .none⟩ := by
  simp only [State.accountPut, he, hp, Config.accountCount]
  cases found : (s.examinePoolAt e.pool).examineAccounts.accountOf n with
  | some q => rw [found] at hk; cases hk
  | none => rw [found, placeFor] at hk; simp only [hk, refuse]

end

/-- A lane drop, or a record that is not final, names the account (R70). -/
theorem accountNamed_iff {s : State} {number : Nat} :
    s.accountNamed number = true ↔ (∃ i d, (s.lane i).drop = some d ∧ d.record.account = number) ∨
      ∃ p ∈ s.store, p.2.final = false ∧ p.2.drop.account = number := by
  have everyLane : ∀ i : LaneIdx, i ∈ allLanes := by decide
  rw [State.accountNamed, Bool.or_eq_true, List.any_eq_true, List.any_eq_true]
  refine or_congr ⟨fun ⟨i, _, h⟩ => ?_, fun ⟨i, d, hd, ha⟩ => ⟨i, everyLane i, ?_⟩⟩ (exists_congr fun p => and_congr_right fun _ => ?_)
  · split at h
    · next d hd => exact ⟨i, d, hd, of_decide_eq_true h⟩
    · cases h
  · simp only [hd]
    exact decide_eq_true ha
  · rw [Bool.and_eq_true, Bool.not_eq_true', decide_eq_true_iff]

theorem accountNamed_eq_false {s : State} {number : Nat} (hl : ∀ i d, (s.lane i).drop = some d → d.record.account ≠ number)
    (hs : ∀ p ∈ s.store, p.2.final = false → p.2.drop.account ≠ number) : s.accountNamed number = false := by
  refine Bool.eq_false_iff.2 fun named => ?_
  rcases accountNamed_iff.1 named with ⟨i, d, hd, ha⟩ | ⟨p, hp, hf, ha⟩
  · exact hl i d hd ha
  · exact hs p hp hf ha

@[simp] theorem examineAccounts_accountNamed (s : State) (number : Nat) : s.examineAccounts.accountNamed number = s.accountNamed number := by
  simp only [State.accountNamed, State.lane, examineAccounts_lanes, examineAccounts_store]

section
variable {s : State} {n : Nat} (h1 : 1 ≤ n) (hn : n ≤ 65535)
include h1 hn

theorem accountRemove_number_of_none (h : s.examineAccounts.accountOf n = none) :
    s.accountRemove (.number n) = ⟨s.examineAccounts, .absent, .none⟩ := by
  simp only [State.accountRemove, within_of_le h1 hn, h, if_true, refuse]

theorem accountRemove_number_of_some {k : Nat} {a : AccountEntry} (h : s.examineAccounts.accountOf n = some (k, a)) :
    s.accountRemove (.number n) = if s.accountNamed n then ⟨s.examineAccounts, .inUse, .none⟩
      else ⟨s.examineAccounts.setAccounts (assocErase s.examineAccounts.tables.accounts k), .ok, .none⟩ := by
  simp only [State.accountRemove, within_of_le h1 hn, h, if_true, State.accountErase, examineAccounts_accountNamed, refuse]

theorem accountGet_number_of_none (h : s.examineAccounts.accountOf n = none) :
    s.accountGet (.number n) = ⟨s.examineAccounts, .absent, .accountEntry none s.tables.accounts.length⟩ := by
  simp only [State.accountGet, within_of_le h1 hn, h, if_true, occupied]

theorem accountGet_number_of_some {k : Nat} {a : AccountEntry} (h : s.examineAccounts.accountOf n = some (k, a)) :
    s.accountGet (.number n) = ⟨s.examineAccounts, .ok, .accountEntry (some (k, .usable a)) s.tables.accounts.length⟩ := by
  simp only [State.accountGet, within_of_le h1 hn, h, if_true, occupied]

end

/-! ## The Account Table, by slot -/

section
variable {s : State} {k : Nat} (hk : k ≤ 255)
include hk

theorem accountRemove_slot_of_usable {a : AccountEntry} (h : assocGet s.tables.accounts k = some (.usable a a)) :
    s.accountRemove (.slot k) = if s.accountNamed a.number then ⟨s, .inUse, .none⟩
      else ⟨s.setAccounts (assocErase s.tables.accounts k), .ok, .none⟩ := by
  simp only [State.accountRemove, within_zero_of_le hk, if_true, examineAccountAt_of_agrees (agreesAt_of_usable h), h, State.accountErase, refuse]

/-- A slot that is UNUSABLE once examined is removed without the test (R70). -/
theorem accountRemove_slot_of_unusable {e : TableEntry AccountEntry} (h : assocGet s.tables.accounts k = some e)
    (he : e.examined = .unusable) : s.accountRemove (.slot k) =
      ⟨(s.examineAccountAt k).setAccounts (assocErase (s.examineAccountAt k).tables.accounts k), .ok, .none⟩ := by
  have left : assocGet (s.examineAccountAt k).tables.accounts k = some .unusable := by
    rw [examineAccountAt_tables, assocGet_sweepAt, h, Option.map_some, he]
  simp only [State.accountRemove, within_zero_of_le hk, if_true, left]

theorem accountRemove_slot_of_none (h : assocGet s.tables.accounts k = none) : s.accountRemove (.slot k) = ⟨s, .absent, .none⟩ := by
  simp only [State.accountRemove, within_zero_of_le hk, if_true, examineAccountAt_of_agrees (agreesAt_of_empty h), h, refuse]

theorem accountGet_slot_of_some {e : TableEntry AccountEntry} (h : assocGet s.tables.accounts k = some e) :
    s.accountGet (.slot k) = ⟨s.examineAccountAt k, .ok, .accountEntry (some (k, e.examined.report)) s.tables.accounts.length⟩ := by
  simp only [State.accountGet, within_zero_of_le hk, if_true, examineAccountAt_tables, assocGet_sweepAt, h, Option.map_some, occupied]

theorem accountGet_slot_of_none (h : assocGet s.tables.accounts k = none) :
    s.accountGet (.slot k) = ⟨s, .absent, .accountEntry none s.tables.accounts.length⟩ := by
  simp only [State.accountGet, within_zero_of_le hk, if_true, examineAccountAt_of_agrees (agreesAt_of_empty h), h, occupied]

end

end Sys2Proof.Machine
end

section
/-! The statements about the examinations of the four tables and the requests on them, settled. -/

namespace Sys2Proof.Machine

/-- Settles O50: an examination by what it leaves of its table and what it reports, a search by what it finds. -/
theorem examinationRule : Obligations.ExaminationRule := by
  refine ⟨fun s => ⟨examined_reported s (fun t => { s.tables with classes := t }) .cls _,
      examined_reported s (fun t => { s.tables with marks := t }) .mark _,
      examined_reported s (fun t => { s.tables with accounts := t }) .account _⟩,
    fun s k => ⟨⟨fun c w => examinedAt_reported s (fun t => { s.tables with classes := t }) .cls, examineClassAt_of_agrees⟩,
      ⟨fun c w => examinedAt_reported s (fun t => { s.tables with marks := t }) .mark, examineMarkAt_of_agrees⟩,
      ⟨fun c w => examinedAt_reported s (fun t => { s.tables with pools := t }) .pool, examinePoolAt_of_agrees⟩,
      ⟨fun c w => examinedAt_reported s (fun t => { s.tables with accounts := t }) .account, examineAccountAt_of_agrees⟩⟩,
    fun s o n => ⟨fun k e h => ?_, fun h k e w hm => ?_, fun k e h => ?_, fun h k e w hm => ?_, fun k e h => ?_,
      fun h k e w hm => ?_, ?_⟩⟩
  · obtain ⟨listed, key⟩ := findKey_eq_some h
    exact ⟨listed, (Bool.and_eq_true_iff.1 key).imp of_decide_eq_true of_decide_eq_true⟩
  · have missed := findKey_eq_none h hm
    exact (Bool.and_eq_false_iff.1 missed).imp of_decide_eq_false of_decide_eq_false
  · obtain ⟨listed, key⟩ := findKey_eq_some h
    exact ⟨listed, (Bool.and_eq_true_iff.1 key).imp of_decide_eq_true of_decide_eq_true⟩
  · have missed := findKey_eq_none h hm
    exact (Bool.and_eq_false_iff.1 missed).imp of_decide_eq_false of_decide_eq_false
  · obtain ⟨listed, key⟩ := findKey_eq_some h
    exact ⟨listed, of_decide_eq_true key⟩
  · have missed := findKey_eq_none h hm
    exact of_decide_eq_false missed
  · rw [poolAt_eq]
    cases assocGet s.tables.pools n with
    | none => rfl
    | some e => cases e <;> rfl

/-- Settles O51: each request by the answer its block gives, a new mark's slot by where it is placed. -/
theorem classAndMarkRequests : Obligations.ClassAndMarkRequests := by
  refine ⟨fun s tag n hs hn => ⟨fun args e he hk => exec_classPut hs (classPut_of_absent hn he hk),
      fun args e p he hk => exec_classPut hs (classPut_of_elsewhere hn he hk), fun e h => exec_classRemove hs (classRemove_of_some hn h),
      fun h => exec_classRemove hs (classRemove_of_none hn h), fun e h => exec_classGet hs ?_, fun h => exec_classGet hs ?_,
      fun c w h hne => exec_classGet hs ?_, fun h => exec_classGet hs (classGet_of_none hn h)⟩,
    fun s tag o n hs ho h1 hn => ?_,
    fun s tag k hs hk => ⟨fun e h => exec_markRemove hs (markRemove_slot_of_some hk h), fun e h => exec_markGet hs ?_,
      fun c w h hne => exec_markGet hs ?_, fun h => exec_markGet hs ?_,
      fun h => ⟨exec_markRemove hs (markRemove_slot_of_none hk h), exec_markGet hs (markGet_slot_of_none hk h)⟩⟩,
    fun α t n k => ⟨lowestFree_eq_some, lowestFree_eq_none, lowestUnusable_eq_some, lowestUnusable_eq_none⟩⟩
  · rw [classGet_of_some hn h, examined_fresh, examineClassAt_of_agrees (agreesAt_of_usable h)]; rfl
  · rw [classGet_of_some hn h, examined_unusable, examineClassAt_of_agrees (agreesAt_of_unusable h)]; rfl
  · rw [classGet_of_some hn h, examined_of_ne hne]; rfl
  · intro t put
    have inRange : keyInRange o n = true := by rw [keyInRange, within_zero_of_le ho, within_of_le h1 hn]; rfl
    have putAt : ∀ k, placeFor 128 (t.markAt o n) t.tables.marks = some k → put 0 .barred k ∧ put 1 .inspect k :=
      fun k hp => ⟨exec_markPut hs (markPut_of_place inRange rfl hp), exec_markPut hs (markPut_of_place inRange rfl hp)⟩
    refine ⟨fun k e found => ⟨(putAt k (by rw [found, placeFor_found])).1, (putAt k (by rw [found, placeFor_found])).2,
        exec_markRemove hs (markRemove_key_of_some inRange found), exec_markGet hs (markGet_key_of_some inRange found)⟩,
      fun new => ⟨fun k free => putAt k (by rw [new, placeFor_of_free free]),
        fun noFree => ⟨fun k unusable => putAt k (by rw [new, placeFor_of_unusable noFree unusable]), fun noUnusable code hc => ?_⟩,
        exec_markRemove hs (markRemove_key_of_none inRange new), exec_markGet hs (markGet_key_of_none inRange new)⟩⟩
    have full : placeFor 128 (t.markAt o n) t.tables.marks = none := by rw [new, placeFor_of_full noFree noUnusable]
    obtain ⟨mark, hm⟩ := markOf_of_le_one hc
    exact exec_markPut hs (markPut_of_full inRange hm full)
  · rw [markGet_slot_of_some hk h, examined_fresh, examineMarkAt_of_agrees (agreesAt_of_usable h)]; rfl
  · rw [markGet_slot_of_some hk h, examined_of_ne hne]; rfl
  · rw [markGet_slot_of_some hk h, examined_unusable, examineMarkAt_of_agrees (agreesAt_of_unusable h)]; rfl

/-- Settles O52: each request by the answer its block gives, a new account's slot by where it is placed, a removal by whether it is named. -/
theorem poolAndAccountRequests : Obligations.PoolAndAccountRequests := by
  refine ⟨fun s tag n hs hn => ⟨fun accepted overrides h => exec_poolPut hs (poolPut_of_inRange hn h),
      fun e he => ⟨fun h => exec_poolRemove hs (poolRemove_of_unnamed hn he h), fun p h => exec_poolRemove hs (poolRemove_of_named hn he h)⟩,
      fun e h => exec_poolGet hs ?_, fun h => exec_poolGet hs ?_, fun c w h hne => exec_poolGet hs ?_,
      fun h => ⟨exec_poolRemove hs (poolRemove_of_none hn h), exec_poolGet hs (poolGet_of_none hn h)⟩⟩,
    fun s tag n hs h1 hn => ⟨fun args e he => ?_,
      fun h => ⟨exec_accountRemove hs (accountRemove_number_of_none h1 hn h), exec_accountGet hs (accountGet_number_of_none h1 hn h)⟩,
      fun k a h => ⟨exec_accountGet hs (accountGet_number_of_some h1 hn h), fun hl hst => exec_accountRemove hs ?_,
        fun named => exec_accountRemove hs ?_⟩⟩,
    fun s tag k hs hk => ?_⟩
  · rw [poolGet_of_some hn h, examined_fresh, examinePoolAt_of_agrees (agreesAt_of_usable h)]; rfl
  · rw [poolGet_of_some hn h, examined_unusable, examinePoolAt_of_agrees (agreesAt_of_unusable h)]; rfl
  · rw [poolGet_of_some hn h, examined_of_ne hne]; rfl
  · intro s1 t put
    refine ⟨fun noPool => exec_accountPut hs (accountPut_of_no_pool he noPool), fun p pool => ?_⟩
    have putAt : ∀ k, placeFor 256 (t.accountOf n) t.tables.accounts = some k → put k :=
      fun k hp => exec_accountPut hs (accountPut_of_place he pool hp)
    refine ⟨fun k a found => putAt k (by rw [found, placeFor_found]), fun new => ⟨fun k free => putAt k (by rw [new, placeFor_of_free free]),
      fun noFree => ⟨fun k unusable => putAt k (by rw [new, placeFor_of_unusable noFree unusable]), fun noUnusable => ?_⟩⟩⟩
    have full : placeFor 256 (t.accountOf n) t.tables.accounts = none := by rw [new, placeFor_of_full noFree noUnusable]
    exact exec_accountPut hs (accountPut_of_full he pool full)
  · rw [accountRemove_number_of_some h1 hn h, accountNamed_eq_false hl hst]; rfl
  · rw [accountRemove_number_of_some h1 hn h, accountNamed_iff.2 named]; rfl
  · intro s1 erased got
    have erasedWhen : ∀ e, assocGet s.tables.accounts k = some e → e.examined = .unusable → got .unusable ∧ erased := by
      intro e h he
      refine ⟨exec_accountGet hs ?_, exec_accountRemove hs (accountRemove_slot_of_unusable hk h he)⟩
      rw [accountGet_slot_of_some hk h, he]; rfl
    refine ⟨fun a h => ?_, fun c w h hne => erasedWhen _ h (examined_of_ne hne),
      fun h => ⟨examineAccountAt_of_agrees (agreesAt_of_unusable h), erasedWhen _ h examined_unusable⟩,
      fun h => ⟨exec_accountRemove hs (accountRemove_slot_of_none hk h), exec_accountGet hs (accountGet_slot_of_none hk h)⟩⟩
    have same : s1 = s := examineAccountAt_of_agrees (agreesAt_of_usable h)
    refine ⟨same, exec_accountGet hs ?_, fun hl hst => exec_accountRemove hs ?_, fun named => exec_accountRemove hs ?_⟩
    · rw [accountGet_slot_of_some hk h, examined_fresh]; rfl
    · rw [accountRemove_slot_of_usable hk h, accountNamed_eq_false hl hst, same]; rfl
    · rw [accountRemove_slot_of_usable hk h, accountNamed_iff.2 named]; rfl

end Sys2Proof.Machine
end

section
/-! SUPPORT. The SIGHT requests (R74, R91 to R93), one case after another: the answer of each, and the reply it is taken with. -/

namespace Sys2Proof.Machine

/-! ## Ranges -/

theorem within_of_outside {lo hi n : Nat} (h : n < lo ∨ hi < n) : within lo hi n = false := by
  rw [within, Bool.and_eq_false_iff, decide_eq_false_iff_not, decide_eq_false_iff_not, Nat.not_le, Nat.not_le]
  exact h

theorem keyInRange_of_le {o n : Nat} (ho : o ≤ 4095) (h1 : 1 ≤ n) (hn : n ≤ 1048575) : keyInRange o n = true := by
  rw [keyInRange, within_zero_of_le ho, within_of_le h1 hn]
  rfl

theorem keyInRange_of_outside {o n : Nat} (h : 4095 < o ∨ n = 0 ∨ 1048575 < n) : keyInRange o n = false := by
  rw [keyInRange, Bool.and_eq_false_iff]
  rcases h with ho | hn | hn
  · exact .inl (within_of_outside (.inr ho))
  · exact .inr (within_of_outside (.inl (by omega)))
  · exact .inr (within_of_outside (.inr hn))

/-! ## The place of an entry -/

/-- Something in a list stands at its place, counted from 1. -/
theorem getElem?_placeIn {α : Type} [DecidableEq α] {x : α} {l : List α} (h : x ∈ l) :
    1 ≤ placeIn x l ∧ l[placeIn x l - 1]? = some x := by
  induction l with
  | nil => cases h
  | cons y l ih =>
    rw [placeIn]
    by_cases hxy : x = y
    · rw [if_pos hxy, hxy]
      exact ⟨Nat.le_refl 1, rfl⟩
    · obtain ⟨first, there⟩ := ih ((List.mem_cons.1 h).resolve_left hxy)
      rw [if_neg hxy]
      obtain ⟨k, hk⟩ := Nat.exists_eq_add_of_le' first
      rw [hk] at there ⊢
      exact ⟨Nat.succ_pos _, there⟩

/-! ## Entries that have aged -/

/-- A first rise of a counter of 32 bits may as well be the last. -/
theorem repeat_raise32_raise32 (n a : Nat) : Nat.repeat raise32 n (raise32 a) = raise32 (Nat.repeat raise32 n a) := by
  induction n with
  | zero => rfl
  | succ n ih => exact congrArg raise32 ih

/-- Each aged entry is counted (R91). -/
theorem foldl_countYard_aged (l : List Sighting) (s : State) :
    l.foldl (fun s _ => s.countYard .aged) s = { s with yard := { s.yard with aged := Nat.repeat raise32 l.length s.yard.aged } } := by
  induction l generalizing s with
  | nil => rfl
  | cons e l ih =>
    have counted : Nat.repeat raise32 l.length (s.countYard .aged).yard.aged = Nat.repeat raise32 (e :: l).length s.yard.aged :=
      repeat_raise32_raise32 l.length s.yard.aged
    rw [List.foldl_cons, ih, counted]
    rfl

/-- The entries younger than the hold period stay, the others leave and are counted (R74, R91). -/
theorem ageAll_eq (s : State) : s.ageAll = { s with
    sightings := s.sightings.filter (fun e => decide (s.now < e.lastSeen + s.holdPeriod * 1000)),
    yard := { s.yard with aged := Nat.repeat raise32 (s.sightings.filter s.aged).length s.yard.aged } } := by
  have young : s.sightings.filter (fun e => !s.aged e) =
      s.sightings.filter (fun e => decide (s.now < e.lastSeen + s.holdPeriod * 1000)) :=
    List.filter_congr fun e _ => by rw [State.aged, ← decide_not, decide_eq_decide, Nat.not_le]
  rw [State.ageAll, foldl_countYard_aged, young]

/-! ## The answers -/

section
variable {s : State} {o n : Nat}

theorem sightHold_of_inRange {period : Nat} (h1 : 600 ≤ period) (h2 : period ≤ 86400) :
    s.sightHold period = ⟨{ s with holdPeriod := period }.ageAll, .ok, .period period⟩ := by
  rw [State.sightHold, within_of_le h1 h2, if_pos rfl]

theorem sightHold_of_outside {period : Nat} (h : period < 600 ∨ 86400 < period) : s.sightHold period = ⟨s, .range, .none⟩ := by
  rw [State.sightHold, within_of_outside h, if_neg Bool.false_ne_true, refuse]

theorem sightFind_of_some (hk : keyInRange o n = true) {e : Sighting} (h : sightingOf s.sightings o n = some e) :
    s.sightFind o n = ⟨s, .ok, s.sightResult (some e)⟩ := by
  simp only [State.sightFind, hk, if_true, h]

theorem sightFind_of_none (hk : keyInRange o n = true) (h : sightingOf s.sightings o n = none) :
    s.sightFind o n = ⟨s, .absent, s.sightResult none⟩ := by
  simp only [State.sightFind, hk, if_true, h]

theorem sightFind_of_outside (hk : keyInRange o n = false) : s.sightFind o n = ⟨s, .range, s.sightResult none⟩ := by
  rw [State.sightFind, hk, if_neg Bool.false_ne_true]

theorem sightForget_of_some (hk : keyInRange o n = true) {e : Sighting} (h : sightingOf s.sightings o n = some e) :
    s.sightForget o n = ⟨{ s with sightings := forget s.sightings o n }, .ok, .count (forget s.sightings o n).length⟩ := by
  simp only [State.sightForget, hk, if_true, h]

theorem sightForget_of_none (hk : keyInRange o n = true) (h : sightingOf s.sightings o n = none) :
    s.sightForget o n = ⟨s, .absent, .none⟩ := by
  simp only [State.sightForget, hk, if_true, h, refuse]

theorem sightForget_of_outside (hk : keyInRange o n = false) : s.sightForget o n = ⟨s, .range, .none⟩ := by
  rw [State.sightForget, hk, if_neg Bool.false_ne_true, refuse]

end

/-! ## The replies -/

section
variable {s u : State} {tag : Byte} {status : Status} {r : Result} (hs : s.ready)
include hs

theorem exec_sightHold {period : Nat} (ha : s.sightHold period = ⟨u, status, r⟩) :
    exec (.sightHold tag period) s = .next (finish (u.replied 0x40 tag status r)) :=
  request_answered (c := .sightHold tag period) (act := fun s => s.sightHold period) hs rfl ha

theorem exec_sightFind {o n : Nat} (ha : s.sightFind o n = ⟨u, status, r⟩) :
    exec (.sightFind tag o n) s = .next (finish (u.replied 0x41 tag status r)) :=
  request_answered (c := .sightFind tag o n) (act := fun s => s.sightFind o n) hs rfl ha

theorem exec_sightForget {o n : Nat} (ha : s.sightForget o n = ⟨u, status, r⟩) :
    exec (.sightForget tag o n) s = .next (finish (u.replied 0x42 tag status r)) :=
  request_answered (c := .sightForget tag o n) (act := fun s => s.sightForget o n) hs rfl ha

end

end Sys2Proof.Machine
end

section
/-! SUPPORT. The rungs of the classification ladder (Table 5-1, R78 to R85) and the judgement of a keg (R83, R89, R90), one case after another. -/

namespace Sys2Proof.Machine

/-! ## Units -/

/-- The units of an item by what was measured of it (R78). -/
def layersOf (kind : LaneKind) (m : Option Measurement) : Nat :=
  match kind, m with
  | .crate, some m => m.value
  | _, _ => 1

theorem unitsOf_eq (kind : LaneKind) (c : Capture) : unitsOf kind c = layersOf kind c.measurement := by
  cases kind with
  | crate => rw [unitsOf]; cases c.measurement <;> rfl
  | keg => rfl

theorem layersOf_keg (m : Option Measurement) : layersOf .keg m = 1 := rfl

/-! ## Items with no code, many codes, or no measurement -/

section
variable (s : State) (i : LaneIdx) (d : DropRec)

theorem ladder_unread (m : Option Measurement) :
    s.ladder i d (.unread m) = (s, .unresolved .unread none (layersOf (s.lane i).cfg.kind m) none) :=
  congrArg (fun units => (s, Verdict.unresolved .unread none units none)) (unitsOf_eq _ (.unread m))

theorem ladder_multiCode (m : Option Measurement) :
    s.ladder i d (.multiCode m) = (s, .unresolved .multiCode none (layersOf (s.lane i).cfg.kind m) none) :=
  congrArg (fun units => (s, Verdict.unresolved .multiCode none units none)) (unitsOf_eq _ (.multiCode m))

theorem ladder_noMeasure (c : Code) : s.ladder i d (.noMeasure c) = (s, .unresolved .noMeasure none 1 none) := by
  have one : unitsOf (s.lane i).cfg.kind (.noMeasure c) = 1 := by cases (s.lane i).cfg.kind <;> rfl
  exact congrArg (fun units => (s, Verdict.unresolved .noMeasure none units none)) one

end

/-! ## The class of an item (R79, R80) -/

section
variable {s : State} {i : LaneIdx} {d : DropRec} {c : Code} {m : Measurement}

theorem ladder_of_no_class (h : s.examineClasses.classOf c.owner c.type = none) :
    s.ladder i d (.ok c m) = (s.examineClasses, .unresolved .unknownCode none (layersOf (s.lane i).cfg.kind (some m)) none) := by
  simp only [State.ladder, unitsOf_eq, Capture.measurement, h]

variable {k : Nat} {e : ClassEntry} (h : s.examineClasses.classOf c.owner c.type = some (k, e))
include h

theorem ladder_of_other_kind (hk : e.part.kind ≠ (s.lane i).cfg.kind) : s.ladder i d (.ok c m) =
    (s.examineClasses, .unresolved .wrongLane (some k) (layersOf (s.lane i).cfg.kind (some m)) (some e.deposit)) := by
  simp only [State.ladder, unitsOf_eq, Capture.measurement, h, hk, if_false]

theorem ladder_of_kind (hk : e.part.kind = (s.lane i).cfg.kind) : s.ladder i d (.ok c m) =
    s.examineClasses.ladderPool i d c m (layersOf (s.lane i).cfg.kind (some m)) k e := by
  simp only [State.ladder, unitsOf_eq, Capture.measurement, h, hk, if_true]

end

/-! ## The pool of the account (R71, R81) -/

section
variable {s : State} {account : Nat}

theorem dropPool_of_no_account (h : s.examineAccounts.accountOf account = none) : s.dropPool account = (s.examineAccounts, none) := by
  simp only [State.dropPool, h]

theorem dropPool_of_account {k : Nat} {a : AccountEntry} (h : s.examineAccounts.accountOf account = some (k, a)) :
    s.dropPool account = (s.examineAccounts.examinePoolAt a.pool, (s.examineAccounts.examinePoolAt a.pool).poolAt a.pool) := by
  simp only [State.dropPool, h]

variable {i : LaneIdx} {d : DropRec} {c : Code} {m : Measurement} {units k : Nat} {e : ClassEntry} {t : State}

theorem ladderPool_of_no_pool (h : s.dropPool d.account = (t, none)) :
    s.ladderPool i d c m units k e = (t, .line .refused k units 0 []) := by
  simp only [State.ladderPool, h]

variable {p : PoolEntry} (h : s.dropPool d.account = (t, some p))
include h

theorem ladderPool_of_not_accepted (ha : p.accepted.getLsbD k = false) :
    s.ladderPool i d c m units k e = (t, .line .refused k units 0 []) := by
  simp only [State.ladderPool, h, ha, Bool.false_eq_true, if_false]

/-- A crate class: the layers measured against the class's limit (R82). -/
theorem ladderPool_of_crate (ha : p.accepted.getLsbD k = true) {limit : Nat} (he : e.part = .crate limit) :
    s.ladderPool i d c m units k e =
      if limit < m.value then (t, .unresolved .noMeasure (some k) units (some ((p.override k).getD e.deposit)))
      else (t, .line .accepted k units ((p.override k).getD e.deposit) []) := by
  simp only [State.ladderPool, h, ha, if_true, he]

theorem ladderPool_of_keg (ha : p.accepted.getLsbD k = true) {tare ullage full charge : Nat} (he : e.part = .keg tare ullage full charge) :
    s.ladderPool i d c m units k e =
      t.ladderKeg i d.number c m.value units k tare ullage full charge ((p.override k).getD e.deposit) := by
  simp only [State.ladderPool, h, ha, if_true, he]

end

/-! ## The mark of a keg (R82, R83) -/

section
variable {s : State} {i : LaneIdx} {drop : Nat} {c : Code} {weight units k tare ullage full charge base : Nat}

theorem ladderKeg_of_no_serial (h : c.serial = 0) : s.ladderKeg i drop c weight units k tare ullage full charge base =
    (s, .unresolved .unknownCode (some k) units (some base)) := by
  rw [State.ladderKeg, if_pos h]

variable (hc : c.serial ≠ 0)
include hc

theorem ladderKeg_of_no_mark (h : s.examineMarks.markAt c.owner c.serial = none) :
    s.ladderKeg i drop c weight units k tare ullage full charge base =
      s.examineMarks.judgeKeg i drop c weight k tare ullage full charge base [] := by
  simp only [State.ladderKeg, hc, if_false, h, Option.map_none, inspectAlert]

variable {km : Nat} {mark : MarkEntry} (h : s.examineMarks.markAt c.owner c.serial = some (km, mark))
include h

theorem ladderKeg_of_inspect (hm : mark.mark = .inspect) : s.ladderKeg i drop c weight units k tare ullage full charge base =
    s.examineMarks.judgeKeg i drop c weight k tare ullage full charge base [.inspect] := by
  simp only [State.ladderKeg, hc, if_false, h, Option.map_some, hm, inspectAlert]

theorem ladderKeg_of_barred (hm : mark.mark = .barred) : s.ladderKeg i drop c weight units k tare ullage full charge base =
    (s.examineMarks, .line .barred k units 0 [.barred]) := by
  simp only [State.ladderKeg, hc, if_false, h, Option.map_some, hm]

end

/-! ## Sightings and the weight of a keg (R83, R85, R89, R90) -/

theorem learn_eq (s : State) (owner serial : Nat) (i : LaneIdx) (drop : Nat) : s.learn owner serial i drop =
    if s.sightings.length < 2048 then { s with sightings := s.sightings ++ [⟨owner, serial, i, some drop, s.now, 0⟩] }
    else { s with
      sightings := s.sightings.drop 1 ++ [⟨owner, serial, i, some drop, s.now, 0⟩],
      yard := { s.yard with evicted := raise32 s.yard.evicted } } := rfl

theorem sightingOf_eq_some {l : List Sighting} {owner serial : Nat} {e : Sighting} (h : sightingOf l owner serial = some e) :
    e.owner = owner ∧ e.serial = serial :=
  have found := List.find?_some (p := fun e : Sighting => decide (e.owner = owner) && decide (e.serial = serial)) h
  (Bool.and_eq_true_iff.1 found).imp of_decide_eq_true of_decide_eq_true

section
variable {s : State} {i : LaneIdx} {drop : Nat} {c : Code} {weight k tare ullage full charge base : Nat} {alerts : List AlertReason}

/-- A keg that is held: a REPEAT, its entry refreshed at the newest end (R90). -/
theorem judgeKeg_of_sighting {e : Sighting} (h : sightingOf s.sightings c.owner c.serial = some e) :
    s.judgeKeg i drop c weight k tare ullage full charge base alerts =
      ({ s with sightings := forget s.sightings c.owner c.serial ++ [{ e with lastSeen := s.now, repeats := min (e.repeats + 1) 255 }] },
        { Verdict.line .repeated k 1 0 alerts with firstLane := if e.firstLane = i then none else some e.firstLane }) := by
  obtain ⟨owner, serial⟩ := sightingOf_eq_some h
  simp only [State.judgeKeg, h, State.refresh, owner, serial]

/-- A keg that is not held is learned, and judged by its weight (R83, R89). -/
theorem judgeKeg_of_new (h : sightingOf s.sightings c.owner c.serial = none) :
    s.judgeKeg i drop c weight k tare ullage full charge base alerts =
      (s.learn c.owner c.serial i drop, judgeWeight k weight tare ullage full charge base alerts) := by
  simp only [State.judgeKeg, h]

theorem judgeWeight_of_full (h : full ≤ weight - tare) :
    judgeWeight k weight tare ullage full charge base alerts = .line .full k 1 0 (.full :: alerts) := by
  rw [judgeWeight, aboveTare, if_pos h]

theorem judgeWeight_of_heavy (hf : weight - tare < full) (h : ullage ≤ weight - tare) :
    judgeWeight k weight tare ullage full charge base alerts = .line .heavy k 1 (base - charge) alerts := by
  rw [judgeWeight, aboveTare, if_neg (Nat.not_le.2 hf), if_pos h]

theorem judgeWeight_of_light (hf : weight - tare < full) (h : weight - tare < ullage) :
    judgeWeight k weight tare ullage full charge base alerts = .line .accepted k 1 base alerts := by
  rw [judgeWeight, aboveTare, if_neg (Nat.not_le.2 hf), if_neg (Nat.not_le.2 h)]

end

/-- The base value of an item: the pool's override of the class, or else the class's deposit (R71). -/
theorem override_getD (p : PoolEntry) (k deposit : Nat) : (p.override k).getD deposit =
    (match p.overrides.find? (fun o => decide (o.cls = k)) with
      | some o => o.deposit
      | none => deposit) := by
  rw [PoolEntry.override]
  cases p.overrides.find? (fun o => decide (o.cls = k)) <;> rfl

end Sys2Proof.Machine
end

section
/-! SUPPORT. The placement of an item (R86, R87): the lines and tallies of a drop after one more item, and where an item finds room. -/

namespace Sys2Proof.Machine

/-! ## Lines by key (R86) -/

theorem lineOf_cons (l : Line) (lines : List Line) (cls : Option Nat) (disp : Disposition) (value : Nat) :
    lineOf (l :: lines) cls disp value =
      if l.cls = cls ∧ l.disposition = disp ∧ l.value = value then some l else lineOf lines cls disp value := by
  by_cases key : l.cls = cls ∧ l.disposition = disp ∧ l.value = value
  · rw [if_pos key]
    exact List.find?_cons_of_pos (by simp only [key, decide_true, Bool.and_self])
  · rw [if_neg key]
    exact List.find?_cons_of_neg (by simpa only [Bool.and_eq_true, decide_eq_true_iff, and_assoc] using key)

section
variable {lines : List Line} {cls : Option Nat} {disp : Disposition} {value : Nat} (items units : Nat)

/-- A key with no line gets one at the end. -/
theorem addToLine_of_none (h : lineOf lines cls disp value = none) :
    addToLine lines cls disp value items units = lines ++ [⟨cls, disp, value, items, units⟩] := by
  induction lines with
  | nil => rfl
  | cons l lines ih =>
    rw [lineOf_cons] at h
    by_cases key : l.cls = cls ∧ l.disposition = disp ∧ l.value = value
    · rw [if_pos key] at h
      cases h
    · rw [if_neg key] at h
      rw [addToLine, if_neg key, ih h]
      rfl

theorem lineOf_addToLine_same {l : Line} (h : lineOf lines cls disp value = some l) :
    lineOf (addToLine lines cls disp value items units) cls disp value = some { l with items := l.items + items, units := l.units + units } := by
  induction lines with
  | nil => cases h
  | cons m lines ih =>
    rw [lineOf_cons] at h
    by_cases key : m.cls = cls ∧ m.disposition = disp ∧ m.value = value
    · rw [if_pos key] at h
      cases h
      rw [addToLine, if_pos key, lineOf_cons, if_pos key]
    · rw [if_neg key] at h
      rw [addToLine, if_neg key, lineOf_cons, if_neg key, ih h]

/-- No line with another key changes. -/
theorem lineOf_addToLine_ne {cls' : Option Nat} {disp' : Disposition} {value' : Nat} (h : (cls', disp', value') ≠ (cls, disp, value)) :
    lineOf (addToLine lines cls disp value items units) cls' disp' value' = lineOf lines cls' disp' value' := by
  have other : ∀ l : Line, l.cls = cls ∧ l.disposition = disp ∧ l.value = value →
      ¬ (l.cls = cls' ∧ l.disposition = disp' ∧ l.value = value') := by
    rintro l ⟨rfl, rfl, rfl⟩ ⟨rfl, rfl, rfl⟩
    exact h rfl
  induction lines with
  | nil =>
    rw [addToLine, lineOf_cons]
    exact if_neg (other ⟨cls, disp, value, items, units⟩ ⟨rfl, rfl, rfl⟩)
  | cons l lines ih =>
    by_cases key : l.cls = cls ∧ l.disposition = disp ∧ l.value = value
    · rw [addToLine, if_pos key, lineOf_cons, lineOf_cons, if_neg (other l key), if_neg (other l key)]
    · rw [addToLine, if_neg key, lineOf_cons, lineOf_cons, ih]

theorem keys_addToLine_of_some {l : Line} (h : lineOf lines cls disp value = some l) :
    (addToLine lines cls disp value items units).map (fun l => (l.cls, l.disposition, l.value)) =
      lines.map (fun l => (l.cls, l.disposition, l.value)) := by
  induction lines with
  | nil => cases h
  | cons m lines ih =>
    rw [lineOf_cons] at h
    by_cases key : m.cls = cls ∧ m.disposition = disp ∧ m.value = value
    · rw [addToLine, if_pos key]
      rfl
    · rw [if_neg key] at h
      rw [addToLine, if_neg key, List.map_cons, List.map_cons, ih h]

end

theorem linesItems_cons (l : Line) (lines : List Line) : linesItems (l :: lines) = l.items + linesItems lines := by
  rw [linesItems, List.map_cons, List.sum_cons]
  rfl

theorem linesItems_addToLine (lines : List Line) (cls : Option Nat) (disp : Disposition) (value items units : Nat) :
    linesItems (addToLine lines cls disp value items units) = linesItems lines + items := by
  induction lines with
  | nil => exact Nat.add_comm items 0
  | cons l lines ih =>
    by_cases key : l.cls = cls ∧ l.disposition = disp ∧ l.value = value
    · rw [addToLine, if_pos key, linesItems_cons, linesItems_cons]
      exact Nat.add_right_comm _ _ _
    · rw [addToLine, if_neg key, linesItems_cons, linesItems_cons, ih, Nat.add_assoc]

/-! ## Room on a line (R86) -/

section
variable {lines : List Line} {v : Verdict} {disp : Disposition}

theorem placedOutcome_of_unresolved {c : Cause} (h : v.outcome = .unresolved c) : placedOutcome lines v = .unresolved c := by
  rw [placedOutcome, h]

theorem placedOutcome_of_line {l : Line} (h : v.outcome = .line disp) (hl : lineOf lines v.cls disp (v.value.getD 0) = some l) :
    placedOutcome lines v = if l.items < 65535 then .line disp else .unresolved .linesFull := by
  simp only [placedOutcome, h, roomOnLine, hl]
  exact ite_congr (propext decide_eq_true_iff) (fun _ => rfl) (fun _ => rfl)

theorem placedOutcome_of_no_line (h : v.outcome = .line disp) (hl : lineOf lines v.cls disp (v.value.getD 0) = none) :
    placedOutcome lines v = if lines.length < 32 then .line disp else .unresolved .linesFull := by
  simp only [placedOutcome, h, roomOnLine, hl]
  exact ite_congr (propext decide_eq_true_iff) (fun _ => rfl) (fun _ => rfl)

end

/-! ## The unresolved tallies (R87) -/

theorem unresolved_get_set (u : Unresolved) (c c' : Cause) (t : Tally) : (u.set c t).get c' = if c' = c then t else u.get c' := by
  cases c <;> cases c' <;> rfl

theorem unresolved_items_set (u : Unresolved) (c : Cause) (t : Tally) : (u.set c t).items + (u.get c).items = u.items + t.items := by
  cases c <;>
    simp only [Unresolved.items, Unresolved.toList, Unresolved.set, Unresolved.get, List.map_cons, List.map_nil, List.sum_cons] <;> omega

/-- Within their ranges the items and units of a cause add up (R87). -/
theorem unresolved_add_of_fits {u : Unresolved} {c : Cause} {items units : Nat} (hi : (u.get c).items + items ≤ 4294967295)
    (hu : (u.get c).units + units ≤ 51539607540) :
    u.add c items units = u.set c ⟨(u.get c).items + items, (u.get c).units + units⟩ := by
  have fits : ∀ (site : Config.Site) {max n : Nat}, n ≤ max → Config.fit site max n = n := fun _ _ _ h => if_pos h
  rw [Unresolved.add, Config.unresolvedItemsMax, Config.unresolvedUnitsMax, fits _ hi, fits _ hu]

/-! ## The drop with one more item -/

section
variable (d : DropRec) (v : Verdict) (long : Bool)

theorem place_line (disp : Disposition) : d.place v (.line disp) long = { d with
    lines := addToLine d.lines v.cls disp (v.value.getD 0) 1 v.units,
    long := if long then raiseTally d.long else d.long } := by
  cases long <;> rfl

theorem place_unresolved (c : Cause) : d.place v (.unresolved c) long = { d with
    unresolved := d.unresolved.add c 1 v.units,
    long := if long then raiseTally d.long else d.long } := by
  cases long <;> rfl

/-- A placement touches the lines, the tallies and the count of LONG items alone. -/
theorem place_frame (o : ItemOutcome) : d.place v o long = { d with
    lines := (d.place v o long).lines, unresolved := (d.place v o long).unresolved, long := (d.place v o long).long } := by
  cases o with
  | line disp => rw [place_line]
  | unresolved c => rw [place_unresolved]

theorem place_number (o : ItemOutcome) : (d.place v o long).number = d.number := by rw [place_frame]

theorem place_long (o : ItemOutcome) : (d.place v o long).long = if long then raiseTally d.long else d.long := by
  cases o with
  | line disp => rw [place_line]
  | unresolved c => rw [place_unresolved]

variable {d v} (hi : ∀ c, (d.unresolved.get c).items < 4294967295) (hu : ∀ c, (d.unresolved.get c).units + v.units ≤ 51539607540)
include hi hu

theorem place_unresolved_of_fits (c : Cause) : (d.place v (.unresolved c) long).unresolved =
    d.unresolved.set c ⟨(d.unresolved.get c).items + 1, (d.unresolved.get c).units + v.units⟩ := by
  rw [place_unresolved]
  exact unresolved_add_of_fits (hi c) (hu c)

/-- Wherever it goes, one item more is classified into the drop (R121). -/
theorem place_classified (o : ItemOutcome) : (d.place v o long).classified = d.classified + 1 := by
  cases o with
  | line disp =>
    rw [place_line, DropRec.classified, linesItems_addToLine]
    exact Nat.add_right_comm _ _ _
  | unresolved c =>
    have tally := unresolved_items_set d.unresolved c ⟨(d.unresolved.get c).items + 1, (d.unresolved.get c).units + v.units⟩
    have lines : (d.place v (.unresolved c) long).lines = d.lines := by rw [place_unresolved]
    rw [DropRec.classified, DropRec.classified, place_unresolved_of_fits long hi hu c, lines]
    dsimp only at tally
    omega

end

end Sys2Proof.Machine
end

section
/-! SUPPORT. A classification as a whole (R77): the ladder leaves every lane as it is, then the item is placed, journalled, judged, listed and
reported in this order; and what of all this a lane's drop sees. -/

namespace Sys2Proof.Machine

/-! ## The ladder and the lanes -/

@[simp] theorem examineClasses_lanes (s : State) : s.examineClasses.lanes = s.lanes := tableFaults_lanes _ _ _
@[simp] theorem examineMarks_lanes (s : State) : s.examineMarks.lanes = s.lanes := tableFaults_lanes _ _ _
@[simp] theorem examinePoolAt_lanes (s : State) (k : Nat) : (s.examinePoolAt k).lanes = s.lanes := tableFaults_lanes _ _ _

theorem judgeKeg_lanes (s : State) (i : LaneIdx) (drop : Nat) (c : Code) (weight k tare ullage full charge base : Nat)
    (alerts : List AlertReason) : (s.judgeKeg i drop c weight k tare ullage full charge base alerts).1.lanes = s.lanes := by
  cases h : sightingOf s.sightings c.owner c.serial with
  | some e => rw [judgeKeg_of_sighting h]
  | none =>
    rw [judgeKeg_of_new h, learn_eq]
    split <;> rfl

theorem ladderKeg_lanes (s : State) (i : LaneIdx) (drop : Nat) (c : Code) (weight units k tare ullage full charge base : Nat) :
    (s.ladderKeg i drop c weight units k tare ullage full charge base).1.lanes = s.lanes := by
  by_cases serial : c.serial = 0
  · rw [ladderKeg_of_no_serial serial]
  · cases marked : s.examineMarks.markAt c.owner c.serial with
    | none => rw [ladderKeg_of_no_mark serial marked, judgeKeg_lanes, examineMarks_lanes]
    | some p =>
      cases mark : p.2.mark with
      | barred => rw [ladderKeg_of_barred serial marked mark, examineMarks_lanes]
      | inspect => rw [ladderKeg_of_inspect serial marked mark, judgeKeg_lanes, examineMarks_lanes]

theorem dropPool_lanes (s : State) (account : Nat) : (s.dropPool account).1.lanes = s.lanes := by
  cases h : s.examineAccounts.accountOf account with
  | none => rw [dropPool_of_no_account h, examineAccounts_lanes]
  | some p => rw [dropPool_of_account h, examinePoolAt_lanes, examineAccounts_lanes]

theorem ladderPool_lanes (s : State) (i : LaneIdx) (d : DropRec) (c : Code) (m : Measurement) (units k : Nat) (e : ClassEntry) :
    (s.ladderPool i d c m units k e).1.lanes = s.lanes := by
  have examined := dropPool_lanes s d.account
  rcases h : s.dropPool d.account with ⟨t, pool⟩
  rw [h] at examined
  cases pool with
  | none => rw [ladderPool_of_no_pool h, examined]
  | some p =>
    cases accepted : p.accepted.getLsbD k with
    | false => rw [ladderPool_of_not_accepted h accepted, examined]
    | true =>
      cases part : e.part with
      | crate limit =>
        rw [ladderPool_of_crate h accepted part]
        split <;> exact examined
      | keg tare ullage full charge => rw [ladderPool_of_keg h accepted part, ladderKeg_lanes, examined]

/-- The ladder leaves every lane as it is. -/
theorem ladder_lanes (s : State) (i : LaneIdx) (d : DropRec) (c : Capture) : (s.ladder i d c).1.lanes = s.lanes := by
  cases c with
  | unread m => rfl
  | multiCode m => rfl
  | noMeasure c => rfl
  | ok c m =>
    cases found : s.examineClasses.classOf c.owner c.type with
    | none => rw [ladder_of_no_class found, examineClasses_lanes]
    | some p =>
      by_cases kind : p.2.part.kind = (s.lane i).cfg.kind
      · rw [ladder_of_kind found kind, ladderPool_lanes, examineClasses_lanes]
      · rw [ladder_of_other_kind found kind, examineClasses_lanes]

theorem lane_ladder (s : State) (i j : LaneIdx) (d : DropRec) (c : Capture) : (s.ladder i d c).1.lane j = s.lane j := by
  rw [lane_eq, lane_eq, ladder_lanes]

/-! ## The reject list and the alert (R54, R77) -/

/-- The reject list after an item of this outcome: a paying item joins it at the newest end (R54). -/
def rejectsAfter (o : ItemOutcome) (entry : Disposition → RejectEntry) (rejects : List RejectEntry) : List RejectEntry :=
  match o with
  | .line .accepted => (entry .accepted :: rejects).take 16
  | .line .heavy => (entry .heavy :: rejects).take 16
  | _ => rejects

/-- The part once an item has been listed (R54). -/
def State.listItem (s : State) (i : LaneIdx) (o : ItemOutcome) (entry : Disposition → RejectEntry) : State :=
  s.modLane i (fun l => { l with rejects := rejectsAfter o entry l.rejects })

/-- The list step by the paying disposition is the list step by the outcome. -/
def State.joinPaying (s : State) (i : LaneIdx) (o : ItemOutcome) (entry : Disposition → RejectEntry) : State :=
  match o.paying with
  | some disp => s.joinRejects i (entry disp)
  | none => s

theorem joinPaying_eq_listItem (s : State) (i : LaneIdx) (o : ItemOutcome) (entry : Disposition → RejectEntry) :
    s.joinPaying i o entry = s.listItem i o entry := by
  cases o with
  | unresolved c => exact (modLane_self rfl).symm
  | line disp =>
    cases disp
    case accepted => rfl
    case heavy => rfl
    all_goals exact (modLane_self rfl).symm

/-- The entry an item of a paying disposition has in the reject list (R54). -/
def rejectEntry (seq : Nat) (it : Item) (v : Verdict) (disp : Disposition) : RejectEntry :=
  ⟨seq, it.completed, v.cls.getD 0, disp, v.value.getD 0, v.units⟩

section
variable (s : State) (i : LaneIdx) (drop seq : Nat) (it : Item) {v : Verdict} (o : ItemOutcome)

theorem listAndAlert_of_no_alert (h : v.alerts = []) :
    s.listAndAlert i drop seq it v o = s.listItem i o (rejectEntry seq it v) := by
  rw [State.listAndAlert, ← joinPaying_eq_listItem, h]
  rfl

theorem listAndAlert_of_alert {disp : Disposition} {c : Code} (h : v.alerts ≠ []) (hv : v.outcome = .line disp) (hc : it.capture.code = some c) :
    s.listAndAlert i drop seq it v o =
      (s.listItem i o (rejectEntry seq it v)).post (.itemAlert i drop seq c (v.cls.getD 0) disp v.alerts) := by
  rw [State.listAndAlert, ← joinPaying_eq_listItem, hv, hc]
  cases alerts : v.alerts with
  | nil => exact absurd alerts h
  | cons a rest => rfl

end

/-! ## The classification -/

/-- The part once a decided item is placed in its drop, journalled and judged (R77, steps 1 to 4). -/
def State.placeItem (s : State) (i : LaneIdx) (d : LaneDrop) (it : Item) (v : Verdict) : State :=
  let o := placedOutcome d.record.lines v
  ((s.modLane i (fun l => { l with drop := some { d with record := d.record.place v o it.long } })).journalWrite i
    (itemEntry s.now d.record.number it v o)).joinWindow i it.capture.cause.bad

theorem classify_eq {s : State} {i : LaneIdx} {d : LaneDrop} (hd : (s.lane i).drop = some d) (it : Item) :
    s.classify i d.record it =
      ((s.ladder i d.record it.capture).1.placeItem i d it (s.ladder i d.record it.capture).2).listAndAlert i d.record.number
        (s.lane i).journal.nextSeq it (s.ladder i d.record it.capture).2
        (placedOutcome d.record.lines (s.ladder i d.record it.capture).2) := by
  have lane := lane_ladder s i i d.record it.capture
  rw [State.classify]
  generalize s.ladder i d.record it.capture = r at lane
  have placed : r.1.modLane i (fun l => l.modDrop (fun d' => d'.place r.2 (placedOutcome d.record.lines r.2) it.long)) =
      r.1.modLane i (fun l => { l with
        drop := some { d with record := d.record.place r.2 (placedOutcome d.record.lines r.2) it.long } }) :=
    modLane_congr (by rw [lane, Lane.modDrop, hd]; rfl)
  have seq : (r.1.modLane i (fun l => { l with
      drop := some { d with record := d.record.place r.2 (placedOutcome d.record.lines r.2) it.long } })).seqNext i =
      (s.lane i).journal.nextSeq := by
    rw [State.seqNext, lane_modLane_same, lane]
  rw [State.applyVerdict, State.placeItem, placed, seq]

/-! ## The drop of the lane -/

theorem drop_joinWindow (s : State) (i : LaneIdx) (bad : Bool) : ((s.joinWindow i bad).lane i).drop = (s.lane i).drop := by
  unfold State.joinWindow
  dsimp only
  split
  · simp [lane_journalWrite_same]
  · split
    · simp [lane_journalWrite_same]
    · simp

theorem drop_placeItem (s : State) (i : LaneIdx) (d : LaneDrop) (it : Item) (v : Verdict) : ((s.placeItem i d it v).lane i).drop =
    some { d with record := d.record.place v (placedOutcome d.record.lines v) it.long } := by
  rw [State.placeItem, drop_joinWindow, lane_journalWrite_same, lane_modLane_same]

theorem drop_listAndAlert (s : State) (i : LaneIdx) (drop seq : Nat) (it : Item) (v : Verdict) (o : ItemOutcome) :
    ((s.listAndAlert i drop seq it v o).lane i).drop = (s.lane i).drop := by
  have listed : ((s.listItem i o (rejectEntry seq it v)).lane i).drop = (s.lane i).drop := by
    rw [State.listItem, lane_modLane_same]
  rw [← listed, ← joinPaying_eq_listItem]
  unfold State.listAndAlert
  dsimp only
  split
  · rfl
  · rw [lane_post]; rfl
  · rfl

/-- A classified item leaves its drop the same but for what placement changes (R77). -/
theorem drop_classify {s : State} {i : LaneIdx} {d : LaneDrop} (hd : (s.lane i).drop = some d) (it : Item) :
    ((s.classify i d.record it).lane i).drop = some { d with
      record := d.record.place (s.ladder i d.record it.capture).2 (placedOutcome d.record.lines (s.ladder i d.record it.capture).2) it.long } := by
  rw [classify_eq hd, drop_listAndAlert, drop_placeItem]

end Sys2Proof.Machine
end

section
/-! SUPPORT. DROP.ABANDON (R94, R119, R120): who holds a drop number, what handing a waiting item on leaves of the drop, and the steps of an
abandonment on a lane and in the store. -/

namespace Sys2Proof.Machine

/-! ## The holder of a number -/

theorem findLaneDrop_eq_some {s : State} {n : Nat} {i : LaneIdx} {d : LaneDrop} (h : s.findLaneDrop n = some (i, d)) :
    (s.lane i).drop = some d ∧ d.record.number = n := by
  obtain ⟨j, -, hj⟩ := List.exists_of_findSome?_eq_some h
  split at hj
  · next d' hd =>
    split at hj
    · next hn => cases hj; exact ⟨hd, hn⟩
    · cases hj
  · cases hj

theorem holder_eq_laneDrop {s : State} {n : Nat} {i : LaneIdx} {d : LaneDrop} :
    s.holder n = .laneDrop i d ↔ s.findLaneDrop n = some (i, d) := by
  unfold State.holder
  cases s.findLaneDrop n with
  | some p =>
    obtain ⟨j, e⟩ := p
    simp only [Holder.laneDrop.injEq, Option.some.injEq, Prod.mk.injEq]
  | none => cases s.findRecord n <;> simp only [reduceCtorEq]

theorem number_of_holder_record {s : State} {n : Nat} {k : SlotIdx} {r : SettleRec} (h : s.holder n = .record k r) : r.drop.number = n := by
  unfold State.holder at h
  cases hl : s.findLaneDrop n with
  | some p => rw [hl] at h; cases h
  | none =>
    rw [hl] at h
    cases hr : s.findRecord n with
    | none => rw [hr] at h; cases h
    | some p =>
      rw [hr] at h
      cases h
      exact of_decide_eq_true (List.find?_some (p := fun p : SlotIdx × SettleRec => decide (p.2.drop.number = n)) hr)

/-! ## The drop as its waiting item is handed on (R30) -/

theorem drop_countHandover (s : State) (i : LaneIdx) (c : CaptureCause) : ((s.countHandover i c).lane i).drop = (s.lane i).drop := by
  obtain ⟨_, _, _, lane, -⟩ := accumulated_cases { s.lane i with counters := (s.lane i).counters.raise c.counter }
  rw [lane_countHandover, lane]

section
variable {s : State} {i : LaneIdx} {d : LaneDrop} (hd : (s.lane i).drop = some d)
include hd

/-- Handing an item on leaves the lane its drop, with its number and in its state. -/
theorem drop_handOver (it : FwdItem) (completed : Nat) :
    ∃ d', ((s.handOver i it completed).lane i).drop = some ⟨d', d.state⟩ ∧ d'.number = d.record.number := by
  have counted := drop_countHandover s i (settleCapture (s.lane i).cfg.kind it).cause
  rw [hd] at counted
  by_cases counting : (s.lane i).counting = true
  · have drop : (s.lane i).countingDrop = some d.record := by rw [Lane.countingDrop, if_pos counting, hd]; rfl
    rw [handOver_of_counting drop, drop_classify counted]
    exact ⟨_, rfl, place_number _ _ _ _⟩
  · have drop : (s.lane i).countingDrop = none := if_neg counting
    rw [handOver_of_not_counting drop, lane_stray]
    exact ⟨d.record, counted, rfl⟩

theorem drop_handOverWaiting : ∃ d', ((s.handOverWaiting i).lane i).drop = some ⟨d', d.state⟩ ∧ d'.number = d.record.number := by
  cases hw : (s.lane i).waiting with
  | none =>
    rw [State.handOverWaiting, hw]
    exact ⟨d.record, hd, rfl⟩
  | some w =>
    have drop : ((s.modLane i (fun l => { l with grace := none, waiting := none })).lane i).drop = some d := by
      rw [lane_modLane_same]; exact hd
    rw [State.handOverWaiting, hw, endGrace_of_waiting hw]
    exact drop_handOver drop w.item w.completed

end

/-! ## Abandoning a lane drop (R119) -/

/-- The part in which a lane drop is abandoned: a waiting item is handed on into the drop first, unless it is PARKED. -/
def State.handedFor (s : State) (i : LaneIdx) (state : DropState) : State :=
  match state with
  | .parked => s
  | _ => s.handOverWaiting i

theorem handedFor_of_none_waiting {s : State} {i : LaneIdx} (hw : (s.lane i).waiting = none) (state : DropState) :
    s.handedFor i state = s := by
  have same : s.handOverWaiting i = s := by rw [State.handOverWaiting, hw]; rfl
  cases state
  case parked => rfl
  all_goals exact same

theorem drop_handedFor {s : State} {i : LaneIdx} {d : LaneDrop} (hd : (s.lane i).drop = some d) :
    ∃ d', ((s.handedFor i d.state).lane i).drop = some ⟨d', d.state⟩ ∧ d'.number = d.record.number := by
  have handed := drop_handOverWaiting hd
  obtain ⟨record, state⟩ := d
  cases state
  case parked => exact ⟨record, hd, rfl⟩
  all_goals exact handed

/-- The lane leaves the park order, its reject list is emptied and the end of its drop journalled. -/
def State.closeAbandoned (s : State) (i : LaneIdx) (d : DropRec) : State :=
  ({ s with parkOrder := s.parkOrder.filter (fun j => decide (j ≠ i)) }.modLane i (fun l => { l with rejects := [] })).journalWrite i
    (.dropClose d.number .abandoned d.classified d.amount)

/-- The drop is discarded with the sightings learned by it, and reported. -/
def State.discardDrop (s : State) (i : LaneIdx) (n : Nat) (source : AbandonedFrom) : State :=
  ((s.removeSightings n).modLane i (fun l => { l with drop := none })).post (.dropVoid n i source (s.sightingsOf n))

/-- The record of the lane's drop, or else this one. -/
def Lane.recordOr (l : Lane) (r : DropRec) : DropRec :=
  match l.drop with
  | some d => d.record
  | none => r

theorem abandonOnLane_eq {s : State} {i : LaneIdx} {d : LaneDrop} {d' : DropRec}
    (h : ((s.handedFor i d.state).lane i).drop = some ⟨d', d.state⟩) :
    s.abandonOnLane i d = ((s.handedFor i d.state).closeAbandoned i d').discardDrop i d'.number d.state.source := by
  have steps : s.abandonOnLane i d = ((s.handedFor i d.state).closeAbandoned i
      (((s.handedFor i d.state).lane i).recordOr d.record)).discardDrop i
      (((s.handedFor i d.state).lane i).recordOr d.record).number d.state.source := rfl
  have record : ((s.handedFor i d.state).lane i).recordOr d.record = d' := by rw [Lane.recordOr, h]
  rw [steps, record]

section
variable (s : State) (i : LaneIdx) (d : DropRec)

theorem lane_closeAbandoned_same : (s.closeAbandoned i d).lane i = { s.lane i with
    rejects := [],
    journal := ((s.lane i).journal.write i s.stamp (.dropClose d.number .abandoned d.classified d.amount)).1 } := by
  rw [State.closeAbandoned, lane_journalWrite_same, lane_modLane_same]
  rfl

theorem lane_closeAbandoned_ne {j : LaneIdx} (h : i ≠ j) : (s.closeAbandoned i d).lane j = s.lane j := by
  rw [State.closeAbandoned, lane_journalWrite_ne _ _ h, lane_modLane_ne _ _ h]
  rfl

@[simp] theorem closeAbandoned_parkOrder : (s.closeAbandoned i d).parkOrder = s.parkOrder.filter (fun j => decide (j ≠ i)) := by
  rw [State.closeAbandoned, journalWrite_parkOrder]; rfl
@[simp] theorem closeAbandoned_finalOrder : (s.closeAbandoned i d).finalOrder = s.finalOrder := by
  rw [State.closeAbandoned, journalWrite_finalOrder]; rfl
@[simp] theorem closeAbandoned_tables : (s.closeAbandoned i d).tables = s.tables := by
  rw [State.closeAbandoned, journalWrite_tables]; rfl
@[simp] theorem closeAbandoned_stationA : (s.closeAbandoned i d).stationA = s.stationA := by
  rw [State.closeAbandoned, journalWrite_stationA]; rfl
@[simp] theorem closeAbandoned_stationB : (s.closeAbandoned i d).stationB = s.stationB := by
  rw [State.closeAbandoned, journalWrite_stationB]; rfl
@[simp] theorem closeAbandoned_sightings : (s.closeAbandoned i d).sightings = s.sightings := by
  rw [State.closeAbandoned, journalWrite_sightings]; rfl
@[simp] theorem closeAbandoned_store : (s.closeAbandoned i d).store = s.store := by
  rw [State.closeAbandoned, journalWrite_store]; rfl

variable (n : Nat) (source : AbandonedFrom)

theorem lane_discardDrop_same : (s.discardDrop i n source).lane i = { s.lane i with drop := none } := by
  rw [State.discardDrop, lane_post, lane_modLane_same]
  rfl

theorem lane_discardDrop_ne {j : LaneIdx} (h : i ≠ j) : (s.discardDrop i n source).lane j = s.lane j := by
  rw [State.discardDrop, lane_post, lane_modLane_ne _ _ h]
  rfl

@[simp] theorem discardDrop_parkOrder : (s.discardDrop i n source).parkOrder = s.parkOrder := by simp [State.discardDrop]
@[simp] theorem discardDrop_finalOrder : (s.discardDrop i n source).finalOrder = s.finalOrder := by simp [State.discardDrop]
@[simp] theorem discardDrop_tables : (s.discardDrop i n source).tables = s.tables := by simp [State.discardDrop]
@[simp] theorem discardDrop_stationA : (s.discardDrop i n source).stationA = s.stationA := by simp [State.discardDrop]
@[simp] theorem discardDrop_stationB : (s.discardDrop i n source).stationB = s.stationB := by simp [State.discardDrop]
@[simp] theorem discardDrop_store : (s.discardDrop i n source).store = s.store := by simp [State.discardDrop]
@[simp] theorem discardDrop_sightings :
    (s.discardDrop i n source).sightings = s.sightings.filter (fun e => decide (e.firstDrop ≠ some n)) := by
  rw [State.discardDrop, post_sightings]; rfl

end

@[simp] theorem finish_lanes (s : State) : (finish s).lanes = s.lanes.map Lane.repace := by
  obtain ⟨host, e, -⟩ := finish_cases s
  rw [e]
  rfl

/-- A lane without a drop stops its pacing as the event ends (R49). -/
theorem repace_of_no_drop {l : Lane} (h : l.drop = none) : l.repace = { l with pacing := .stop } := by
  have counting : l.counting = false := by
    simp only [Lane.counting, Lane.state, h]
    cases l.inService <;> rfl
  rw [Lane.repace, Lane.pacingDue, counting]
  rfl

/-! ## Abandoning a HELD record (R120) -/

/-- A record that is abandoned: VOID, with no money. -/
def SettleRec.voided (r : SettleRec) (clock : Nat) : SettleRec :=
  { r with
    state := .void, amount := 0, cashPart := 0, cashPaid := 0, creditIssued := 0, outstanding := 0, unresolvedAmount := 0,
    finalStamp := some clock }

theorem voidRecord_eq (s : State) (k : SlotIdx) (r : SettleRec) : s.voidRecord k r =
    { s with
      sightings := s.sightings.filter (fun e : Sighting => decide (e.firstDrop ≠ some r.drop.number)),
      finalOrder := s.finalOrder ++ [k],
      store := assocSet s.store k (r.voided s.host.clock) }.post
      (.dropVoid r.drop.number r.drop.lane .held (s.sightings.filter (fun e : Sighting => decide (e.firstDrop = some r.drop.number))).length) := rfl

/-! ## The answer and the reply -/

section
variable {s : State} {n : Nat} (hn : n ≠ 0)
include hn

theorem dropAbandon_of_nobody (h : s.holder n = .nobody) : s.dropAbandon n = ⟨s, .absent, .none⟩ := by
  simp only [State.dropAbandon, hn, if_false, h, refuse]

theorem dropAbandon_of_laneDrop {i : LaneIdx} {d : LaneDrop} (h : s.holder n = .laneDrop i d) :
    s.dropAbandon n = ⟨s.abandonOnLane i d, .ok, .none⟩ := by
  simp only [State.dropAbandon, hn, if_false, h]

variable {k : SlotIdx} {r : SettleRec} (h : s.holder n = .record k r)
include h

theorem dropAbandon_of_held (hr : r.state = .held) : s.dropAbandon n = ⟨s.voidRecord k r, .ok, .none⟩ := by
  simp only [State.dropAbandon, hn, if_false, h, hr, if_true]

theorem dropAbandon_of_not_held (hr : r.state ≠ .held) : s.dropAbandon n = ⟨s, .state, .none⟩ := by
  simp only [State.dropAbandon, hn, if_false, h, hr, refuse]

end

section
variable {s : State} {tag : Byte} {n : Nat} (hs : s.ready)
include hs

theorem exec_dropAbandon_refused {status : Status} (ha : s.dropAbandon n = ⟨s, status, .none⟩) (hr : status ≠ .ok) :
    exec (.dropAbandon tag n) s = .next (finish (s.replied 0x4C tag status .none)) := by
  change request (.dropAbandon tag n) (fun s => s.dropAbandon n) State.enterParked s = _
  rw [request_ready _ _ hs rfl, takeRequest_refused (by rw [ha]; exact hr), ha]

/-- An abandonment that is taken: parked drops are offered the room after the reply (R111, R120). -/
theorem exec_dropAbandon_taken {u : State} (ha : s.dropAbandon n = ⟨u, .ok, .none⟩) :
    exec (.dropAbandon tag n) s = .next (finish (u.replied 0x4C tag .ok .none).enterParked) := by
  change request (.dropAbandon tag n) (fun s => s.dropAbandon n) State.enterParked s = _
  rw [request_ready _ _ hs rfl, takeRequest_ok (by rw [ha]), ha]

end

/-- A lane drop whose lane holds no waiting item, with no other drop parked, is discarded and nothing enters the store. -/
theorem exec_dropAbandon_of_none_waiting {s : State} {tag : Byte} {n : Nat} {i : LaneIdx} {d : LaneDrop} (hs : s.ready) (hn : n ≠ 0)
    (hf : s.findLaneDrop n = some (i, d)) (hw : (s.lane i).waiting = none) (hp : s.parkOrder.filter (fun j => decide (j ≠ i)) = []) :
    exec (.dropAbandon tag n) s = .next (finish
      (((s.closeAbandoned i d.record).discardDrop i d.record.number d.state.source).replied 0x4C tag .ok .none)) := by
  have held : ((s.handedFor i d.state).lane i).drop = some ⟨d.record, d.state⟩ := by
    rw [handedFor_of_none_waiting hw]
    exact (findLaneDrop_eq_some hf).1
  have taken := exec_dropAbandon_taken (tag := tag) hs (dropAbandon_of_laneDrop hn (holder_eq_laneDrop.2 hf))
  rw [abandonOnLane_eq held, handedFor_of_none_waiting hw, enterParked_nil (by simpa using hp)] at taken
  exact taken

/-- The lane once its drop is discarded: IDLE, its reject list empty, the abandonment at the newest end of its journal (R119). -/
theorem lane_finish_abandoned (s : State) (tag : Byte) (i : LaneIdx) (d : LaneDrop) :
    (finish (((s.closeAbandoned i d.record).discardDrop i d.record.number d.state.source).replied 0x4C tag .ok .none)).lane i =
      { s.lane i with
        drop := none, rejects := [], pacing := .stop,
        journal := ((s.lane i).journal.write i s.stamp (.dropClose d.record.number .abandoned d.record.classified d.record.amount)).1 } := by
  rw [lane_finish, lane_replied, lane_discardDrop_same, lane_closeAbandoned_same, repace_of_no_drop rfl]

theorem exec_dropAbandon_of_held {s : State} {tag : Byte} {n : Nat} {k : SlotIdx} {r : SettleRec} (hs : s.ready) (hn : n ≠ 0)
    (h : s.holder n = .record k r) (hr : r.state = .held) :
    exec (.dropAbandon tag n) s = .next (finish (({ s with
      sightings := s.sightings.filter (fun e : Sighting => decide (e.firstDrop ≠ some r.drop.number)),
      finalOrder := s.finalOrder ++ [k],
      store := assocSet s.store k (r.voided s.host.clock) }.post (.dropVoid r.drop.number r.drop.lane .held
        (s.sightings.filter (fun e : Sighting => decide (e.firstDrop = some r.drop.number))).length)).replied 0x4C tag .ok .none).enterParked) := by
  rw [exec_dropAbandon_taken hs (dropAbandon_of_held hn h hr), voidRecord_eq]

end Sys2Proof.Machine
end

section
/-! The statements about classification, the Sighting List and abandoned drops, settled. -/

namespace Sys2Proof.Machine

/-- Settles O53: each request by the answer its block gives; SIGHT.HOLD by the entries that stay. -/
theorem sightRequests : Obligations.SightRequests := by
  intro s tag hs
  refine ⟨fun period h1 h2 => ?_, fun period h => exec_sightHold hs (sightHold_of_outside h), fun o n ho h1 hn => ?_, fun o n h => ?_⟩
  · have answered := exec_sightHold (tag := tag) hs (sightHold_of_inRange h1 h2)
    rw [ageAll_eq] at answered
    exact answered
  · have inRange := keyInRange_of_le ho h1 hn
    refine ⟨fun e he => ⟨⟨s.sightView e, exec_sightFind hs (sightFind_of_some inRange he), rfl, rfl, rfl, rfl, rfl, rfl, ?_⟩,
        ⟨forget s.sightings o n, exec_sightForget hs (sightForget_of_some inRange he), rfl⟩⟩,
      fun he => ⟨exec_sightForget hs (sightForget_of_none inRange he), exec_sightFind hs (sightFind_of_none inRange he)⟩⟩
    exact getElem?_placeIn (List.mem_of_find?_eq_some he)
  · have outside := keyInRange_of_outside h
    exact ⟨exec_sightFind hs (sightFind_of_outside outside), exec_sightForget hs (sightForget_of_outside outside)⟩

/-- Settles O33: down the ladder rung by rung, each by the lemma about it; then a keg's judgement, held or new. -/
theorem ladderRungs : Obligations.LadderRungs := by
  refine ⟨fun s i d => ⟨fun m => ladder_unread s i d m, fun m => ladder_multiCode s i d m, ladder_noMeasure s i d, fun c m => ?_⟩,
    fun s i drop weight cls tare ullage full charge base code alerts => ⟨fun e he => judgeKeg_of_sighting he, fun new => ?_⟩⟩
  · refine ⟨fun noClass => ladder_of_no_class noClass, fun k e hc => ⟨fun other => ladder_of_other_kind hc other, fun same => ?_⟩⟩
    intro s2
    rw [ladder_of_kind hc same]
    refine ⟨fun noAccount => ladderPool_of_no_pool (dropPool_of_no_account noAccount), fun ka a account => ?_⟩
    intro s3
    have pooled := dropPool_of_account account
    refine ⟨fun noPool => ladderPool_of_no_pool (by rw [pooled]; exact congrArg _ noPool), fun p pool => ?_⟩
    have traded : s.examineClasses.dropPool d.account = (s3, some p) := by rw [pooled]; exact congrArg _ pool
    refine ⟨fun refused => ladderPool_of_not_accepted traded refused, fun accepted => ?_⟩
    intro base
    have value : (p.override k).getD e.deposit = base := override_getD p k e.deposit
    refine ⟨fun limit crate => ?_, fun tare ullage full charge keg => ?_⟩
    · rw [ladderPool_of_crate traded accepted crate, value]
      exact ⟨fun above => if_pos above, fun below => if_neg (Nat.not_lt.2 below)⟩
    · have kind : (s.lane i).cfg.kind = .keg := by rw [← same, keg]; rfl
      rw [ladderPool_of_keg traded accepted keg, value, kind, layersOf_keg]
      exact ⟨fun noSerial => ladderKeg_of_no_serial noSerial, fun serial => ⟨fun noMark => ladderKeg_of_no_mark serial noMark,
        fun km mark marked => ⟨fun inspect => ladderKeg_of_inspect serial marked inspect,
          fun barred => ladderKeg_of_barred serial marked barred⟩⟩⟩
  · intro entry
    rw [judgeKeg_of_new new]
    exact ⟨learn_eq s code.owner code.serial i drop, fun full => judgeWeight_of_full full,
      fun notFull heavy => judgeWeight_of_heavy notFull heavy, fun notFull light => judgeWeight_of_light notFull light⟩

/-- Settles O32: the drop by where the item is placed, the rest by the order of the steps. -/
theorem classificationAddsOneItem : Obligations.ClassificationAddsOneItem := by
  intro s i d it hd hi r v hu value
  have now : r.1.now = s.now := (acts_ladder s i d.record it.capture).now
  have bad : it.capture.cause.bad = (match it.capture with
      | .unread _ => true
      | .multiCode _ => true
      | _ => false) := by cases it.capture <;> rfl
  have classified : s.classify i d.record it = _ := classify_eq hd it
  refine ⟨d.record.place v (placedOutcome d.record.lines v) it.long, placedOutcome d.record.lines v, place_frame _ _ _ _,
    place_long _ _ _ _, place_classified it.long hi hu _, fun c hv => placedOutcome_of_unresolved hv, fun disp l hv hl => ?_,
    fun disp hv hl => ?_, fun disp ho => ?_, fun c ho => ?_, ?_⟩
  · rw [placedOutcome_of_line hv hl]
    refine ⟨fun room => ?_, fun full => if_neg (Nat.not_lt.2 full)⟩
    rw [if_pos room, place_line]
    exact ⟨rfl, lineOf_addToLine_same 1 v.units hl, fun cls' disp' value' other => lineOf_addToLine_ne 1 v.units other,
      keys_addToLine_of_some 1 v.units hl⟩
  · rw [placedOutcome_of_no_line hv hl]
    refine ⟨fun room => ?_, fun full => if_neg (Nat.not_lt.2 full)⟩
    rw [if_pos room, place_line]
    exact ⟨rfl, addToLine_of_none 1 v.units hl⟩
  · rw [ho, place_line]
  · rw [ho]
    refine ⟨by rw [place_unresolved], fun c' => ?_⟩
    rw [place_unresolved_of_fits it.long hi hu, unresolved_get_set]
  · intro seq judged listed
    have steps : (r.1.placeItem i d it v).listItem i (placedOutcome d.record.lines v) (rejectEntry seq it v) = listed := by
      simp only [State.placeItem, itemEntry, now, bad]
      rfl
    rw [← steps]
    exact ⟨fun quiet => classified.trans (listAndAlert_of_no_alert _ _ _ _ _ _ quiet),
      fun disp c alert hv hc => classified.trans (listAndAlert_of_alert _ _ _ _ _ _ alert hv hc)⟩

/-- Settles O57: a lane drop by the lane its abandonment leaves, a HELD record by the store it leaves; then each request as a whole. -/
theorem abandonRule : Obligations.AbandonRule := by
  intro s tag n hs hn
  refine ⟨fun i d hf _ hnum hw hi hp => ?_, fun k r hh hr hp => ?_, fun s tag n hs hn => ?_⟩
  · have lane := lane_finish_abandoned s tag i d
    subst hnum
    refine ⟨_, exec_dropAbandon_of_none_waiting hs hn hf hw hp, ?_, by rw [lane], fun j hj => ?_, by simp, by simpa using hp, by simp,
      by simp, by simp, by simp, by simp, ?_⟩
    · rw [lane, Lane.state, hi]; rfl
    · rw [lane_finish, lane_replied, lane_discardDrop_ne _ _ _ _ hj.symm, lane_closeAbandoned_ne _ _ _ hj.symm]
    · rw [lane]
      exact getLast?_write (s.lane i).journal i s.stamp _
  · have taken := exec_dropAbandon_of_held (tag := tag) hs hn hh hr
    rw [enterParked_nil (by simpa using hp)] at taken
    refine ⟨_, taken, by simp, by simp, by simp, by simp, by simp, by simp, fun k' hk => ?_, ?_⟩
    · simp only [State.recordAt, finish_store, replied_store, post_store]
      exact assocGet_assocSet_ne _ _ hk
    · simp only [State.recordAt, finish_store, replied_store, post_store]
      exact assocGet_assocSet_same _ _ _
  · intro refused learned kept
    refine ⟨fun h => exec_dropAbandon_refused hs (dropAbandon_of_nobody hn h) nofun,
      fun k r h hr => exec_dropAbandon_refused hs (dropAbandon_of_not_held hn h hr) nofun, fun k r h hr => ?_, fun i d h => ?_⟩
    · have number := number_of_holder_record h
      subst number
      exact exec_dropAbandon_of_held hs hn h hr
    · intro handed
      obtain ⟨hd, number⟩ := findLaneDrop_eq_some (holder_eq_laneDrop.1 h)
      obtain ⟨d', hd', same⟩ := drop_handedFor hd
      have named : d'.number = n := same.trans number
      subst named
      refine ⟨d', hd', rfl, ?_⟩
      have taken := exec_dropAbandon_taken (tag := tag) hs (dropAbandon_of_laneDrop hn h)
      rw [abandonOnLane_eq hd'] at taken
      exact taken

end Sys2Proof.Machine
end

section
/-! SUPPORT. The breakdown of a cash (R155): the order in which the cassettes are taken, and what the notes ordered from them come to. -/

namespace Sys2Proof.Machine

/-! ## The order in which the cassettes are taken -/

theorem takenBefore_iff (x y : Numbered) : takenBefore x y = true ↔
    y.2.denomination < x.2.denomination ∨ (x.2.denomination = y.2.denomination ∧ x.1 < y.1) := by
  simp only [takenBefore, Bool.or_eq_true, Bool.and_eq_true, decide_eq_true_eq]

theorem takenBefore_trans {x y z : Numbered} (hxy : takenBefore x y = true) (hyz : takenBefore y z = true) : takenBefore x z = true := by
  rw [takenBefore_iff] at *
  omega

/-- Of two cassettes with different numbers one is taken before the other. -/
theorem takenBefore_of_not {x y : Numbered} (hne : x.1 ≠ y.1) (h : ¬ takenBefore x y = true) : takenBefore y x = true := by
  rw [takenBefore_iff] at *
  omega

theorem insertCassette_perm (x : Numbered) (l : List Numbered) : (insertCassette x l).Perm (x :: l) := by
  induction l with
  | nil => exact .refl _
  | cons y ys ih =>
    unfold insertCassette
    split
    · exact .refl _
    · exact (ih.cons y).trans (.swap x y ys)

theorem insertCassette_pairwise {x : Numbered} {l : List Numbered} (hx : ∀ y ∈ l, x.1 ≠ y.1)
    (hl : l.Pairwise (fun a b => takenBefore a b = true)) : (insertCassette x l).Pairwise (fun a b => takenBefore a b = true) := by
  induction l with
  | nil => exact List.pairwise_singleton _ x
  | cons y ys ih =>
    obtain ⟨yFirst, ysOrdered⟩ := List.pairwise_cons.1 hl
    unfold insertCassette
    split
    · next before =>
      refine List.pairwise_cons.2 ⟨fun z hz => ?_, hl⟩
      rcases List.mem_cons.1 hz with rfl | hz
      · exact before
      · exact takenBefore_trans before (yFirst z hz)
    · next after =>
      refine List.pairwise_cons.2 ⟨fun z hz => ?_, ih (fun z hz => hx z (.tail y hz)) ysOrdered⟩
      rcases List.mem_cons.1 ((insertCassette_perm x ys).mem_iff.1 hz) with rfl | hz
      · exact takenBefore_of_not (hx y (.head ys)) after
      · exact yFirst z hz

theorem foldr_insertCassette_perm (l : List Numbered) : (l.foldr insertCassette []).Perm l := by
  induction l with
  | nil => exact .refl _
  | cons x xs ih => exact (insertCassette_perm x _).trans (ih.cons x)

theorem foldr_insertCassette_pairwise {l : List Numbered} (h : (l.map Prod.fst).Nodup) :
    (l.foldr insertCassette []).Pairwise (fun a b => takenBefore a b = true) := by
  induction l with
  | nil => exact .nil
  | cons x xs ih =>
    obtain ⟨fresh, nodup⟩ := List.nodup_cons.1 h
    refine insertCassette_pairwise (fun y hy same => fresh ?_) (ih nodup)
    exact same ▸ List.mem_map_of_mem ((foldr_insertCassette_perm xs).mem_iff.1 hy)

/-- The four cassettes with their numbers. -/
def numbered (cs : Four Cassette) : List Numbered := [(0, cs.c1), (1, cs.c2), (2, cs.c3), (3, cs.c4)]

theorem takingOrder_perm (cs : Four Cassette) : (takingOrder cs).Perm ((numbered cs).filter (fun x => decide (x.2.denomination ≠ 0))) :=
  foldr_insertCassette_perm _

theorem numbers_inUse_nodup (cs : Four Cassette) :
    (((numbered cs).filter (fun x => decide (x.2.denomination ≠ 0))).map Prod.fst).Nodup :=
  (List.filter_sublist.map Prod.fst).nodup (show [0, 1, 2, 3].Nodup by decide)

theorem takingOrder_pairwise (cs : Four Cassette) : (takingOrder cs).Pairwise (fun a b => takenBefore a b = true) :=
  foldr_insertCassette_pairwise (numbers_inUse_nodup cs)

theorem takingOrder_numbers_nodup (cs : Four Cassette) : ((takingOrder cs).map Prod.fst).Nodup :=
  ((takingOrder_perm cs).map Prod.fst).nodup_iff.2 (numbers_inUse_nodup cs)

theorem mem_takingOrder {cs : Four Cassette} {k : Nat} {c : Cassette} : (k, c) ∈ takingOrder cs ↔
    c.denomination ≠ 0 ∧ ((k = 0 ∧ c = cs.c1) ∨ (k = 1 ∧ c = cs.c2) ∨ (k = 2 ∧ c = cs.c3) ∨ (k = 3 ∧ c = cs.c4)) := by
  rw [(takingOrder_perm cs).mem_iff, List.mem_filter, and_comm]
  simp only [numbered, List.mem_cons, List.not_mem_nil, or_false, Prod.mk.injEq, decide_eq_true_eq]

/-! ## The notes ordered -/

theorem orderNotes_numbers (l : List Numbered) (remainder allowed : Nat) :
    (orderNotes l remainder allowed).map Prod.fst = l.map Prod.fst := by
  induction l generalizing remainder allowed with
  | nil => rfl
  | cons x xs ih => exact congrArg _ (ih _ _)

theorem notesFrom_cons (k n j : Nat) (orders : List (Nat × Nat)) :
    notesFrom ((k, n) :: orders) j = if j = k then n else notesFrom orders j := by
  simp only [notesFrom, assocGet]
  split <;> rfl

theorem notesFrom_of_not_mem {orders : List (Nat × Nat)} {k : Nat} (h : k ∉ orders.map Prod.fst) : notesFrom orders k = 0 := by
  induction orders with
  | nil => rfl
  | cons o os ih =>
    obtain ⟨other, rest⟩ := not_or.1 (mt List.mem_cons.2 h)
    rw [notesFrom_cons, if_neg other, ih rest]

/-- What the notes ordered come to, with a weight for a note of each cassette: its denomination, or 1 to count the notes. -/
def weighed (weight : Nat → Nat) (orders : List (Nat × Nat)) : Nat := (orders.map (fun o => o.2 * weight o.1)).sum

theorem weighed_cons (weight : Nat → Nat) (k n : Nat) (orders : List (Nat × Nat)) :
    weighed weight ((k, n) :: orders) = n * weight k + weighed weight orders := by
  simp only [weighed, List.map_cons, List.sum_cons]

/-- Orders from each of four cassettes at most once come to the sum over the four. -/
theorem weighed_eq_sum_of_four {weight : Nat → Nat} {orders : List (Nat × Nat)} (once : (orders.map Prod.fst).Nodup)
    (four : ∀ k ∈ orders.map Prod.fst, k < 4) : weighed weight orders =
      notesFrom orders 0 * weight 0 + notesFrom orders 1 * weight 1 + notesFrom orders 2 * weight 2 + notesFrom orders 3 * weight 3 := by
  induction orders with
  | nil => simp [weighed, notesFrom, assocGet]
  | cons o os ih =>
    obtain ⟨k, n⟩ := o
    obtain ⟨fresh, once⟩ := List.nodup_cons.1 once
    have rest := ih once (fun j hj => four j (.tail k hj))
    have unordered : notesFrom os k = 0 := notesFrom_of_not_mem fresh
    have inFour : k < 4 := four k (.head _)
    rw [weighed_cons, rest]
    simp only [notesFrom_cons]
    have place : k = 0 ∨ k = 1 ∨ k = 2 ∨ k = 3 := by omega
    obtain rfl | rfl | rfl | rfl := place <;>
    · simp only [unordered, reduceIte, Nat.reduceEqDiff]
      omega

/-- By denominations the orders are at most the remainder. -/
theorem weighed_orderNotes_le_remainder {weight : Nat → Nat} {l : List Numbered} (h : ∀ p ∈ l, weight p.1 = p.2.denomination)
    (remainder allowed : Nat) : weighed weight (orderNotes l remainder allowed) ≤ remainder := by
  induction l generalizing remainder allowed with
  | nil => exact Nat.zero_le _
  | cons p ps ih =>
    obtain ⟨k, c⟩ := p
    have denomination : weight k = c.denomination := h (k, c) (.head ps)
    unfold orderNotes
    rw [weighed_cons, denomination]
    generalize hn : min (min (remainder / c.denomination) c.count) allowed = n
    have fits : n * c.denomination ≤ remainder :=
      Nat.le_trans (Nat.mul_le_mul_right c.denomination (show n ≤ remainder / c.denomination by omega)) (Nat.div_mul_le_self remainder _)
    have rest := ih (fun q hq => h q (.tail _ hq)) (remainder - n * c.denomination) (allowed - n)
    omega

/-- In number the orders are at most the notes allowed. -/
theorem weighed_orderNotes_le_allowed (l : List Numbered) (remainder allowed : Nat) :
    weighed (fun _ => 1) (orderNotes l remainder allowed) ≤ allowed := by
  induction l generalizing remainder allowed with
  | nil => exact Nat.zero_le _
  | cons p ps ih =>
    obtain ⟨k, c⟩ := p
    unfold orderNotes
    rw [weighed_cons]
    generalize hn : min (min (remainder / c.denomination) c.count) allowed = n
    have rest := ih (remainder - n * c.denomination) (allowed - n)
    omega

/-- From each cassette at most its count is ordered. -/
theorem notesFrom_orderNotes_le {k most : Nat} {l : List Numbered} (h : ∀ p ∈ l, p.1 = k → p.2.count ≤ most) (remainder allowed : Nat) :
    notesFrom (orderNotes l remainder allowed) k ≤ most := by
  induction l generalizing remainder allowed with
  | nil => exact Nat.zero_le _
  | cons p ps ih =>
    obtain ⟨j, c⟩ := p
    unfold orderNotes
    rw [notesFrom_cons]
    split
    · next same =>
      have count : c.count ≤ most := h (j, c) (.head ps) same.symm
      omega
    · exact ih (fun q hq => h q (.tail _ hq)) _ _

/-! ## The breakdown -/

/-- The denomination of a cassette by its number. -/
def denominationAt (cs : Four Cassette) : Nat → Nat
  | 0 => cs.c1.denomination
  | 1 => cs.c2.denomination
  | 2 => cs.c3.denomination
  | _ => cs.c4.denomination

theorem denominationAt_of_mem_takingOrder {cs : Four Cassette} : ∀ p ∈ takingOrder cs, denominationAt cs p.1 = p.2.denomination := by
  rintro ⟨k, c⟩ hp
  obtain ⟨-, ⟨rfl, rfl⟩ | ⟨rfl, rfl⟩ | ⟨rfl, rfl⟩ | ⟨rfl, rfl⟩⟩ := mem_takingOrder.1 hp <;> rfl

section
variable (cs : Four Cassette) (cash : Nat)

/-- What the orders of a breakdown come to, cassette by cassette. -/
theorem weighed_breakdown (weight : Nat → Nat) : weighed weight (orderNotes (takingOrder cs) cash 50) =
    (breakdown cs cash).c1 * weight 0 + (breakdown cs cash).c2 * weight 1 + (breakdown cs cash).c3 * weight 2 +
      (breakdown cs cash).c4 * weight 3 := by
  refine weighed_eq_sum_of_four (by rw [orderNotes_numbers]; exact takingOrder_numbers_nodup cs) (fun k hk => ?_)
  rw [orderNotes_numbers] at hk
  obtain ⟨⟨j, c⟩, hp, rfl⟩ := List.mem_map.1 hk
  obtain ⟨-, cassette⟩ := mem_takingOrder.1 hp
  dsimp only
  omega

theorem valueOf_breakdown_le : valueOf cs (breakdown cs cash) ≤ cash := by
  have sum : weighed (denominationAt cs) (orderNotes (takingOrder cs) cash 50) = valueOf cs (breakdown cs cash) :=
    weighed_breakdown cs cash (denominationAt cs)
  exact sum ▸ weighed_orderNotes_le_remainder denominationAt_of_mem_takingOrder cash 50

theorem noteCount_breakdown_le : noteCount (breakdown cs cash) ≤ 50 := by
  have sum := weighed_breakdown cs cash (fun _ => 1)
  have most := weighed_orderNotes_le_allowed (takingOrder cs) cash 50
  unfold noteCount
  omega

theorem notesFrom_breakdown_le {k : Nat} {c : Cassette} (h : ∀ c', (k, c') ∈ takingOrder cs → c' = c) :
    notesFrom (orderNotes (takingOrder cs) cash 50) k ≤ c.count :=
  notesFrom_orderNotes_le (fun ⟨_, c'⟩ hp same => by subst same; exact (h c' hp) ▸ Nat.le_refl _) cash 50

/-- A breakdown orders from each cassette at most its count. -/
theorem breakdown_le_counts : (breakdown cs cash).c1 ≤ cs.c1.count ∧ (breakdown cs cash).c2 ≤ cs.c2.count ∧
    (breakdown cs cash).c3 ≤ cs.c3.count ∧ (breakdown cs cash).c4 ≤ cs.c4.count := by
  refine ⟨notesFrom_breakdown_le cs cash ?_, notesFrom_breakdown_le cs cash ?_, notesFrom_breakdown_le cs cash ?_,
    notesFrom_breakdown_le cs cash ?_⟩ <;>
  · intro c hc
    simpa using (mem_takingOrder.1 hc).2

end

end Sys2Proof.Machine
end

section
/-! SUPPORT. What a credit move, serving, the park order, a pick and the test of the cassettes come to (R111, R127, R138, R152 to R158), and how
a frame of a station whose link is UP is taken. -/

namespace Sys2Proof.Machine

/-! ## Records through changes of stations and notices -/

@[simp] theorem recordAt_modStation (s : State) (x : StationId) (f : Station → Station) (k : SlotIdx) :
    (s.modStation x f).recordAt k = s.recordAt k := by
  simp only [State.recordAt, modStation_store]

@[simp] theorem recordAt_post (s : State) (b : NoticeBody) (k : SlotIdx) : (s.post b).recordAt k = s.recordAt k := by
  simp only [State.recordAt, post_store]

@[simp] theorem recordAt_setCounts (s : State) (x : StationId) (counts : Four Nat) (k : SlotIdx) :
    (s.setCounts x counts).recordAt k = s.recordAt k := by
  simp only [State.recordAt, State.setCounts, postAll_store, modStation_store]

@[simp] theorem station_setRecord (s : State) (k : SlotIdx) (r : SettleRec) (x : StationId) :
    (s.setRecord k r).station x = s.station x := by
  cases x <;> rfl

@[simp] theorem state_setCounts (s : State) (x : StationId) (counts : Four Nat) :
    ((s.setCounts x counts).station x).state = (s.station x).state := by
  simp only [State.setCounts, station_postAll, station_modStation_same]

/-! ## The credit move (R127) -/

section
variable (s : State) (k : SlotIdx) (r : SettleRec) (reason : CreditReason)

/-- A credit move of part of the outstanding cash leaves its slot the record with the rest. -/
theorem recordAt_creditMove_part {sum : Nat} (h : sum < r.outstanding) : (s.creditMove k r sum reason).recordAt k =
    some { r with outstanding := r.outstanding - sum, creditIssued := r.creditIssued + sum } := by
  have rest : r.outstanding - sum ≠ 0 := by omega
  simp only [State.creditMove, rest, if_false, recordAt_post, recordAt_setRecord_same]

/-- A credit move of the whole outstanding cash leaves its slot the final record. -/
theorem recordAt_creditMove_whole : (s.creditMove k r r.outstanding reason).recordAt k =
    some { r with
      state := .credited, outstanding := 0, creditIssued := r.creditIssued + r.outstanding, finalStamp := some s.host.clock } := by
  simp only [State.creditMove, Nat.sub_self, if_true, recordAt_post]
  exact recordAt_setRecord_same (s.leaveQueues k) k _

/-- A credit move changes no more of a station than its queue. -/
theorem station_creditMove (sum : Nat) (x : StationId) :
    ∃ queue, (s.creditMove k r sum reason).station x = { s.station x with queue := queue } := by
  unfold State.creditMove
  dsimp only
  split
  · rw [station_post]
    cases x <;> exact ⟨_, rfl⟩
  · rw [station_post, station_setRecord]
    exact ⟨_, rfl⟩

@[simp] theorem state_creditMove (sum : Nat) (x : StationId) :
    ((s.creditMove k r sum reason).station x).state = (s.station x).state := by
  obtain ⟨queue, e⟩ := station_creditMove s k r reason sum x
  rw [e]

@[simp] theorem cassettes_creditMove (sum : Nat) (x : StationId) :
    ((s.creditMove k r sum reason).station x).cassettes = (s.station x).cassettes := by
  obtain ⟨queue, e⟩ := station_creditMove s k r reason sum x
  rw [e]

end

/-! ## Serving (R138, R154, R156) -/

section
variable (s : State) (x : StationId) (k : SlotIdx) (r : SettleRec) (notes : Four Nat) {value : Nat}

/-- A dispense of a value up to the outstanding cash leaves the record DISPENSING with that value, the shortfall credited. -/
theorem recordAt_startDispense (worth : value ≠ 0) (h : value ≤ r.outstanding) :
    (s.startDispense x k r notes value).recordAt k = some { r with
      state := .dispensing, outstanding := value, creditIssued := r.creditIssued + (r.outstanding - value) } := by
  simp only [State.startDispense, State.setStationState, State.send, recordAt_modStation]
  split
  · have part : r.outstanding - value < ({ r with state := .dispensing } : SettleRec).outstanding := by dsimp only; omega
    rw [recordAt_creditMove_part _ _ _ _ part]
    simp only [Nat.sub_sub_self h]
  · have whole : value = r.outstanding := by omega
    rw [recordAt_setRecord_same, whole, Nat.sub_self, Nat.add_zero]

@[simp] theorem cassettes_startDispense : ((s.startDispense x k r notes value).station x).cassettes = (s.station x).cassettes := by
  simp only [State.startDispense, State.setStationState, State.send, modStation_modStation, station_modStation_same]
  split
  · exact cassettes_creditMove _ _ _ _ _ x
  · rw [station_setRecord]

end

/-- An OPEN station with one record queued serves it: credited whole when it breaks down to nothing, dispensed otherwise. -/
theorem serve_of_one_queued {s : State} {x : StationId} {k : SlotIdx} {r : SettleRec} (opened : (s.station x).state = .opened)
    (queued : (s.station x).queue = [k]) (hr : s.recordAt k = some r) :
    let notes := breakdown (s.station x).cassettes r.outstanding
    let value := valueOf (s.station x).cassettes notes
    s.serve x = if value = 0 then (s.modStation x (fun t => { t with queue := [] })).creditMove k r r.outstanding .shortfall
      else (s.modStation x (fun t => { t with queue := [] })).startDispense x k r notes value := by
  have tag : (s.station x).state.tag = .opened := by rw [opened]; rfl
  simp only [State.serve, tag, if_true, queued, List.length_singleton, State.serveN, recordAt_modStation, hr]

/-! ## Parked drops (R111) -/

theorem grantSlot_of_no_room {s : State} (noSlot : s.freeSlot = none) (noFinal : s.finalOrder = []) : s.grantSlot = none := by
  simp only [State.grantSlot, noSlot, noFinal]

/-- With no room in the store no parked drop enters. -/
theorem enterParked_of_no_room {s : State} (noSlot : s.freeSlot = none) (noFinal : s.finalOrder = []) : s.enterParked = s := by
  unfold State.enterParked
  cases parked : s.parkOrder with
  | nil => rfl
  | cons i rest =>
    have stays : ∀ d, { s with parkOrder := rest }.enterStore i d = none := fun d => by
      rw [State.enterStore, grantSlot_of_no_room (s := { s with parkOrder := rest }) noSlot noFinal]
    simp only [List.length_cons, State.enterParkedN, parked, stays]
    split <;> rfl

/-- A change of a station makes no room, so after it none enters that found none before. -/
theorem enterParked_modStation_of_no_entry {s : State} (h : s.parkOrder = [] ∨ (s.freeSlot = none ∧ s.finalOrder = [])) (x : StationId)
    (f : Station → Station) : (s.modStation x f).enterParked = s.modStation x f := by
  obtain noneParked | ⟨noSlot, noFinal⟩ := h
  · exact enterParked_nil ((modStation_parkOrder s x f).trans noneParked)
  · refine enterParked_of_no_room ?_ ((modStation_finalOrder s x f).trans noFinal)
    simpa only [State.freeSlot, modStation_store] using noSlot

/-! ## Frames on a link that is UP (R145, R146) -/

/-- The part with a station's link heard now, as every valid frame leaves it. -/
def State.linkHeard (s : State) (x : StationId) : State := s.modStation x (fun u => { u with link := .up s.now, rx := .hunting })

theorem linkFrame_of_up {s : State} {x : StationId} {since : Nat} (hl : (s.station x).link = .up since) : s.linkFrame x = s.linkHeard x := by
  simp only [State.linkFrame, hl, LinkState.isUp, if_true]
  rfl

@[simp] theorem state_linkHeard (s : State) (x : StationId) : ((s.linkHeard x).station x).state = (s.station x).state := by
  simp only [State.linkHeard, station_modStation_same]

@[simp] theorem cassettes_linkHeard (s : State) (x : StationId) : ((s.linkHeard x).station x).cassettes = (s.station x).cassettes := by
  simp only [State.linkHeard, station_modStation_same]

@[simp] theorem recordAt_linkHeard (s : State) (x : StationId) (k : SlotIdx) : (s.linkHeard x).recordAt k = s.recordAt k :=
  recordAt_modStation _ _ _ _

@[simp] theorem linkHeard_now (s : State) (x : StationId) : (s.linkHeard x).now = s.now := modStation_now _ _ _

section
variable {s : State} {x : StationId} {since : Nat} (hr : s.rstHeld = false) (hl : (s.station x).link = .up since)
include hr hl

theorem exec_presented : exec (.presented x) s = .next (finish ((s.linkHeard x).presentedArrives x).enterParked) := by
  change execPresented x s = _
  rw [execPresented, event_running _ hr, ← linkFrame_of_up hl]
  rfl

theorem exec_picked {picked : Four Nat} (hn : ∀ n ∈ picked.toList, n ≤ 255) :
    exec (.picked x picked.c1 picked.c2 picked.c3 picked.c4) s =
      .next (finish ((s.linkHeard x).pickedArrives x picked).enterParked) := by
  change execPicked x picked.c1 picked.c2 picked.c3 picked.c4 s = _
  have inRange : (StationFrame.picked picked).inRange = true := List.all_eq_true.2 (fun n hm => decide_eq_true (hn n hm))
  have valid : validStation (.picked picked) = some (.picked picked) := if_pos inRange
  rw [execPicked, event_running _ hr, valid, ← linkFrame_of_up hl]
  rfl

end

/-! ## PRESENTED (R158) -/

/-- A dispense whose notes are presented: its step is OUTCOME, with the take period and 10 s to run. -/
def Dispense.awaitOutcome (d : Dispense) (notes : Four Nat) (now : Nat) : Dispense :=
  { d with step := .outcome notes, timeout := now + (d.takePeriod + 10) * 1000 }

theorem presentedArrives_of_present {s : State} {x : StationId} {d : Dispense} {notes : Four Nat} {mk : Dispense → StationState}
    (hm : mk = .serving ∨ mk = .closing) (hd : (s.station x).state = mk d) (hp : d.step = .present notes) :
    s.presentedArrives x = s.modStation x (fun t => { t with state := mk (d.awaitOutcome notes s.now) }) := by
  obtain rfl | rfl := hm <;>
  · simp only [State.presentedArrives, hd, StationState.dispense, hp, State.takePresented]
    refine modStation_congr ?_
    simp only [hd]
    rfl

theorem presentedArrives_of_no_dispense {s : State} {x : StationId} (h : (s.station x).state.dispense = none) :
    s.presentedArrives x = s := by
  simp only [State.presentedArrives, h]

/-- PRESENTED in step PRESENT on a link that is UP, when no parked drop can enter. -/
theorem exec_presented_of_present {s : State} {x : StationId} {since : Nat} {d : Dispense} {notes : Four Nat} {mk : Dispense → StationState}
    (hr : s.rstHeld = false) (hl : (s.station x).link = .up since) (noEntry : s.parkOrder = [] ∨ (s.freeSlot = none ∧ s.finalOrder = []))
    (hm : mk = .serving ∨ mk = .closing) (hd : (s.station x).state = mk d) (hp : d.step = .present notes) :
    exec (.presented x) s = .next (finish (s.modStation x (fun u => { u with
      link := .up s.now, rx := .hunting, state := mk (d.awaitOutcome notes s.now) }))) := by
  rw [exec_presented hr hl, presentedArrives_of_present hm ((state_linkHeard s x).trans hd) hp, linkHeard_now, State.linkHeard,
    modStation_modStation, enterParked_modStation_of_no_entry noEntry]

/-! ## PICKED (R157) -/

theorem pickedArrives_of_pick {s : State} {x : StationId} {d : Dispense} {mk : Dispense → StationState}
    (hm : mk = .serving ∨ mk = .closing) (hd : (s.station x).state = mk d) (hp : d.step = .pick) (picked : Four Nat) :
    s.pickedArrives x picked = s.takePick x d picked := by
  obtain rfl | rfl := hm <;> simp only [State.pickedArrives, hd, StationState.dispense, hp]

/-- PICKED in step PICK on a link that is UP: the pick is taken, then parked drops are offered room. -/
theorem exec_picked_of_pick {s : State} {x : StationId} {since : Nat} {d : Dispense} {picked : Four Nat} {mk : Dispense → StationState}
    (hr : s.rstHeld = false) (hl : (s.station x).link = .up since) (hn : ∀ n ∈ picked.toList, n ≤ 255)
    (hm : mk = .serving ∨ mk = .closing) (hd : (s.station x).state = mk d) (hp : d.step = .pick) :
    exec (.picked x picked.c1 picked.c2 picked.c3 picked.c4) s =
      .next (finish ((s.linkHeard x).takePick x d picked).enterParked) := by
  rw [exec_picked hr hl hn, pickedArrives_of_pick hm ((state_linkHeard s x).trans hd) hp]

theorem overPicked_iff (ordered picked : Four Nat) : overPicked ordered picked = true ↔
    ordered.c1 < picked.c1 ∨ ordered.c2 < picked.c2 ∨ ordered.c3 < picked.c3 ∨ ordered.c4 < picked.c4 := by
  simp only [overPicked, Four.zip, Four.toList, List.any_cons, List.any_nil, id_eq, Bool.or_false, Bool.or_eq_true, decide_eq_true_eq]

/-- A count after notes of an order are picked: a cassette that gave just its order keeps the rest, one that gave fewer is empty. -/
theorem countAfterPick_eq {picked ordered : Nat} (h : picked ≤ ordered) (count : Nat) :
    (if picked < ordered then 0 else count - picked) = if picked = ordered then count - picked else 0 := by
  rcases Nat.lt_or_eq_of_le h with fewer | rfl
  · rw [if_pos fewer, if_neg (Nat.ne_of_lt fewer)]
  · rw [if_neg (Nat.lt_irrefl _), if_pos rfl]

/-- A dispense whose notes are picked: its step is PRESENT, with 5 s to run. -/
def Dispense.present (d : Dispense) (picked : Four Nat) (now : Nat) : Dispense :=
  { d with step := .present picked, timeout := now + 5000 }

/-- The dispense of a station goes on to PRESENT. -/
def State.presenting (s : State) (x : StationId) (mk : Dispense → StationState) (d : Dispense) (picked : Four Nat) (now : Nat) : State :=
  s.modStation x (fun t => { t with state := mk (d.present picked now) })

section
variable {s : State} {x : StationId} {d : Dispense} {r : SettleRec} {picked : Four Nat} {mk : Dispense → StationState}

/-- More notes than ordered from some cassette: the dispense fails, then the counts fall. -/
theorem takePick_of_over (tooMany : overPicked d.ordered picked = true) : s.takePick x d picked =
    (s.failDispense x d (some picked) .overpick).setCounts x (countsAfterOverPick (s.station x).cassettes picked) := by
  simp only [State.takePick, tooMany, if_true]

variable (inOrder : overPicked d.ordered picked = false) (hr : s.recordAt d.slot = some r)
include inOrder hr

/-- A pick of value 0: the whole outstanding cash is a shortfall, and the dispense ends. -/
theorem takePick_of_nothing (nothing : valueOf (s.station x).cassettes picked = 0) (cash : 0 < r.outstanding) : s.takePick x d picked =
    ((s.setCounts x (countsAfterPick (s.station x).cassettes d.ordered picked)).creditMove d.slot r r.outstanding .shortfall).endDispense x := by
  simp only [State.takePick, inOrder, Bool.false_eq_true, if_false, recordAt_setCounts, hr, nothing, cash, if_true, Nat.sub_zero]

variable (hm : mk = .serving ∨ mk = .closing) (hd : (s.station x).state = mk d)
include hm hd

/-- A pick of the value ordered goes on to PRESENT. -/
theorem takePick_of_full (value : 0 < valueOf (s.station x).cassettes picked) (full : valueOf (s.station x).cassettes picked = r.outstanding) :
    s.takePick x d picked =
      (s.setCounts x (countsAfterPick (s.station x).cassettes d.ordered picked)).presenting x mk d picked s.now := by
  simp only [State.takePick, inOrder, Bool.false_eq_true, if_false, recordAt_setCounts, hr, Nat.ne_of_gt value, ← full, Nat.lt_irrefl]
  refine modStation_congr ?_
  obtain rfl | rfl := hm <;>
  · simp only [state_setCounts, hd]
    rfl

/-- A pick of less than the value ordered: what lacks is a shortfall, and the dispense goes on to PRESENT. -/
theorem takePick_of_short (value : 0 < valueOf (s.station x).cassettes picked) (short : valueOf (s.station x).cassettes picked < r.outstanding) :
    s.takePick x d picked = ((s.setCounts x (countsAfterPick (s.station x).cassettes d.ordered picked)).creditMove d.slot r
      (r.outstanding - valueOf (s.station x).cassettes picked) .shortfall).presenting x mk d picked s.now := by
  simp only [State.takePick, inOrder, Bool.false_eq_true, if_false, recordAt_setCounts, hr, Nat.ne_of_gt value, short, if_true]
  refine modStation_congr ?_
  obtain rfl | rfl := hm <;>
  · simp only [state_creditMove, state_setCounts, hd]
    rfl

end

/-! ## The test of the cassettes (R152) -/

/-- A count that falls to `n` makes CASSETTE_LOW due. -/
def Cassette.lowAt (c : Cassette) (n : Nat) : Bool :=
  decide (n < c.count) && decide (c.denomination ≠ 0) && c.armed && decide (n ≤ c.threshold)

/-- The test as a change of the alarm alone. -/
theorem tested_eq (c : Cassette) (fell : Bool) : c.tested fell = { c with armed := c.armed && !(fell && c.isLow) } := by
  unfold Cassette.tested
  split
  · next low => rw [low, Bool.not_true, Bool.and_false]
  · next high => rw [Bool.eq_false_iff.2 high, Bool.not_false, Bool.and_true]

theorem isLow_withCount (c : Cassette) (n : Nat) : (decide (n < c.count) && ({ c with count := n } : Cassette).isLow) = c.lowAt n := by
  simp only [Cassette.isLow, Cassette.lowAt, Bool.and_assoc]

theorem tested_withCount (c : Cassette) (n : Nat) : ({ c with count := n } : Cassette).tested (decide (n < c.count)) =
    { c with count := n, armed := c.armed && !c.lowAt n } := by
  rw [tested_eq, isLow_withCount]

theorem notice_withCount (c : Cassette) (n : Nat) (x : StationId) (number : Nat) :
    ({ c with count := n } : Cassette).notice (decide (n < c.count)) x number =
      if c.lowAt n then [.cassetteLow x number c.denomination n] else [] := by
  rw [Cassette.notice, isLow_withCount]

/-- New counts, with the alarm of each cassette that they make low disarmed, and the notices by rising number. -/
theorem setCounts_eq (s : State) (x : StationId) (n : Four Nat) :
    let cs := (s.station x).cassettes
    let notice (number : Nat) (c : Cassette) (n : Nat) : List NoticeBody :=
      if c.lowAt n then [.cassetteLow x number c.denomination n] else []
    s.setCounts x n = (s.modStation x (fun u => { u with
      cassettes := cs.zip (fun c n => { c with count := n, armed := c.armed && !c.lowAt n }) n })).postAll
        (notice 1 cs.c1 n.c1 ++ notice 2 cs.c2 n.c2 ++ notice 3 cs.c3 n.c3 ++ notice 4 cs.c4 n.c4) := by
  simp only [State.setCounts, Four.zip, tested_withCount, notice_withCount]

/-- Cassettes as loaded, with the alarm of each low one disarmed, and the notices by rising number. -/
theorem testLoaded_eq (s : State) (x : StationId) :
    let cs := (s.station x).cassettes
    let notice (number : Nat) (c : Cassette) : List NoticeBody :=
      if c.isLow then [.cassetteLow x number c.denomination c.count] else []
    s.testLoaded x = (s.modStation x (fun u => { u with
      cassettes := cs.map (fun c => { c with armed := c.armed && !c.isLow }) })).postAll
        (notice 1 cs.c1 ++ notice 2 cs.c2 ++ notice 3 cs.c3 ++ notice 4 cs.c4) := by
  simp only [State.testLoaded, Four.map, tested_eq, Cassette.notice, Bool.true_and]

end Sys2Proof.Machine
end

section
/-! SUPPORT. The STATION requests (R148 to R153): what each answers by the state of its station, what returning a queue leaves of the records
(R142), and the replies. -/

namespace Sys2Proof.Machine

/-! ## The queue returned (R142) -/

/-- A record back in AWAITING_CLAIM with a fresh deadline. -/
def State.awaitingAgain (s : State) (r : SettleRec) : SettleRec := { r with state := .awaiting (s.freshDeadline r) }

theorem returnRecord_eq (s : State) (k : SlotIdx) : s.returnRecord k = { s with store := (s.returnRecord k).store } := by
  unfold State.returnRecord
  split <;> rfl

theorem recordAt_returnRecord_same {s : State} {k : SlotIdx} {r : SettleRec} (h : s.recordAt k = some r) :
    (s.returnRecord k).recordAt k = some (s.awaitingAgain r) := by
  simp only [State.returnRecord, h]
  exact recordAt_setRecord_same s k _

theorem recordAt_returnRecord_ne (s : State) {k j : SlotIdx} (h : j ≠ k) : (s.returnRecord k).recordAt j = s.recordAt j := by
  unfold State.returnRecord
  split
  · exact recordAt_setRecord_ne s _ h
  · rfl

/-- Returning one record changes no deadline that another would take. -/
theorem awaitingAgain_returnRecord (s : State) (k : SlotIdx) (r : SettleRec) : (s.returnRecord k).awaitingAgain r = s.awaitingAgain r := by
  rw [returnRecord_eq]
  unfold State.awaitingAgain State.freshDeadline
  split
  · next x _ => cases x <;> rfl
  · rfl

theorem foldl_returnRecord_eq (ks : List SlotIdx) (s : State) :
    ks.foldl State.returnRecord s = { s with store := (ks.foldl State.returnRecord s).store } := by
  induction ks generalizing s with
  | nil => rfl
  | cons k ks ih =>
    rw [List.foldl_cons, ih, returnRecord_eq]

theorem recordAt_foldl_returnRecord_of_not_mem {ks : List SlotIdx} {k : SlotIdx} (h : k ∉ ks) (s : State) :
    (ks.foldl State.returnRecord s).recordAt k = s.recordAt k := by
  induction ks generalizing s with
  | nil => rfl
  | cons j ks ih =>
    obtain ⟨other, rest⟩ := not_or.1 (mt List.mem_cons.2 h)
    exact (ih rest _).trans (recordAt_returnRecord_ne s other)

theorem recordAt_foldl_returnRecord_of_mem {ks : List SlotIdx} {k : SlotIdx} {s : State} {r : SettleRec} (h : k ∈ ks)
    (hr : s.recordAt k = some r) : (ks.foldl State.returnRecord s).recordAt k = some (s.awaitingAgain r) := by
  induction ks generalizing s r with
  | nil => cases h
  | cons j ks ih =>
    rw [List.foldl_cons]
    by_cases same : k = j
    · subst same
      have returned := recordAt_returnRecord_same hr
      by_cases again : k ∈ ks
      · rw [ih again returned, awaitingAgain_returnRecord]
        rfl
      · rw [recordAt_foldl_returnRecord_of_not_mem again, returned]
    · have later : k ∈ ks := (List.mem_cons.1 h).resolve_left same
      rw [ih later ((recordAt_returnRecord_ne s same).trans hr), awaitingAgain_returnRecord]

/-- Returning a queue empties it, and changes the store besides. -/
theorem returnQueue_eq (s : State) (x : StationId) :
    s.returnQueue x = { s with store := (s.returnQueue x).store }.modStation x (fun t => { t with queue := [] }) := by
  unfold State.returnQueue
  rw [foldl_returnRecord_eq]
  cases x <;> rfl

theorem recordAt_returnQueue_of_not_mem {s : State} {x : StationId} {k : SlotIdx} (h : k ∉ (s.station x).queue) :
    (s.returnQueue x).recordAt k = s.recordAt k :=
  (recordAt_foldl_returnRecord_of_not_mem h _).trans (recordAt_modStation s x _ k)

/-- A record of the queue awaits a claim again for its station's claim period. -/
theorem recordAt_returnQueue_of_mem {s : State} {x : StationId} {k : SlotIdx} {r : SettleRec} (h : k ∈ (s.station x).queue)
    (hr : s.recordAt k = some r) (bound : r.station = some x) :
    (s.returnQueue x).recordAt k = some { r with state := .awaiting (s.now + (s.station x).claimPeriod * 1000) } := by
  have returned := recordAt_foldl_returnRecord_of_mem h ((recordAt_modStation s x (fun t => { t with queue := [] }) k).trans hr)
  simp only [State.awaitingAgain, State.freshDeadline, bound, modStation_now, station_modStation_same] at returned
  exact returned

/-! ## The answers -/

@[simp] theorem stationOf_number (x : StationId) : stationOf (StationId.number x) = some x := by cases x <;> rfl

section
variable {s : State} {x : StationId}

theorem stationOpen_of_shut {since : Nat} (shut : (s.station x).state = .closed ∨ (s.station x).state = .fault)
    (up : (s.station x).link = .up since) : s.stationOpen (StationId.number x) =
      ⟨(s.modStation x (fun u => { u with state := .opened })).post (.stationChange x .opened true .request), .ok, .none⟩ := by
  have opened : (s.setStationState x .opened).stationChanged x .request =
      (s.modStation x (fun u => { u with state := .opened })).post (.stationChange x .opened true .request) := by
    simp only [State.stationChanged, State.setStationState, station_modStation_same, up]
    rfl
  rw [← opened]
  obtain closed | fault := shut
  · simp only [State.stationOpen, stationOf_number, closed, StationState.tag, up, LinkState.isUp, if_true]
  · simp only [State.stationOpen, stationOf_number, fault, StationState.tag, up, LinkState.isUp, if_true]

theorem stationOpen_refused (h : (s.station x).link = .lost ∨ (s.station x).state.tag = .opened ∨ (s.station x).state.tag = .serving ∨
    (s.station x).state.tag = .closing) : s.stationOpen (StationId.number x) = ⟨s, .state, .none⟩ := by
  obtain lost | opened | serving | closing := h
  · simp only [State.stationOpen, stationOf_number, lost, LinkState.isUp, Bool.false_eq_true, if_false, refuse]
    split <;> rfl
  · simp only [State.stationOpen, stationOf_number, opened, refuse]
  · simp only [State.stationOpen, stationOf_number, serving, refuse]
  · simp only [State.stationOpen, stationOf_number, closing, refuse]

theorem stationClose_of_idle (idle : (s.station x).state = .opened ∨ (s.station x).state = .fault) : s.stationClose (StationId.number x) =
    ⟨(s.modStation x (fun u => { u with state := .closed })).post
      (.stationChange x .closed (s.station x).link.isUp .request), .ok, .none⟩ := by
  have closed : (s.setStationState x .closed).stationChanged x .request =
      (s.modStation x (fun u => { u with state := .closed })).post (.stationChange x .closed (s.station x).link.isUp .request) := by
    simp only [State.stationChanged, State.setStationState, station_modStation_same]
    rfl
  rw [← closed]
  obtain opened | fault := idle
  · simp only [State.stationClose, stationOf_number, opened]
  · simp only [State.stationClose, stationOf_number, fault]

/-- A close behind a dispense: the queue is returned, and the station is CLOSING. -/
theorem stationClose_of_serving {d : Dispense} (serving : (s.station x).state = .serving d) : s.stationClose (StationId.number x) =
    ⟨({ s with store := (s.returnQueue x).store }.modStation x (fun v => { v with state := .closing d, queue := [] })).post
      (.stationChange x .closing (s.station x).link.isUp .request), .ok, .none⟩ := by
  have closing : (s.returnQueue x).setStationState x (.closing d) =
      { s with store := (s.returnQueue x).store }.modStation x (fun v => { v with state := .closing d, queue := [] }) := by
    rw [State.setStationState, returnQueue_eq, modStation_modStation]
    cases x <;> rfl
  simp only [State.stationClose, stationOf_number, serving, closing, State.stationChanged, station_modStation_same]
  cases x <;> rfl

theorem stationClose_refused (h : (s.station x).state = .closed ∨ (s.station x).state.tag = .closing) :
    s.stationClose (StationId.number x) = ⟨s, .state, .none⟩ := by
  simp only [State.stationClose, stationOf_number]
  cases state : (s.station x).state with
  | closed => rfl
  | closing d => rfl
  | opened => simp [state, StationState.tag] at h
  | serving d => simp [state, StationState.tag] at h
  | fault => simp [state, StationState.tag] at h

section
variable {args : Four CassetteArgs} {cs : Four Cassette} {claimPeriod takePeriod : Nat} (back : Bool)
  (loaded : cassettesOf args = some cs) (periods : periodsInRange claimPeriod takePeriod = true)
include loaded periods

theorem stationLoad_of_shut (shut : (s.station x).state = .closed ∨ (s.station x).state = .fault) :
    s.stationLoad (StationId.number x) args claimPeriod takePeriod back =
      ⟨s.modStation x (fun u => u.loaded cs claimPeriod takePeriod back), .ok, (s.station x).tallyResult back⟩ := by
  obtain closed | fault := shut
  · simp only [State.stationLoad, stationOf_number, loaded, periods, if_true, closed, StationState.tag]
  · simp only [State.stationLoad, stationOf_number, loaded, periods, if_true, fault, StationState.tag]

theorem stationLoad_refused (h : (s.station x).state.tag = .opened ∨ (s.station x).state.tag = .serving ∨ (s.station x).state.tag = .closing) :
    s.stationLoad (StationId.number x) args claimPeriod takePeriod back = ⟨s, .state, .none⟩ := by
  obtain opened | serving | closing := h
  · simp only [State.stationLoad, stationOf_number, loaded, periods, if_true, opened, refuse]
  · simp only [State.stationLoad, stationOf_number, loaded, periods, if_true, serving, refuse]
  · simp only [State.stationLoad, stationOf_number, loaded, periods, if_true, closing, refuse]

end

theorem stationGet_eq : s.stationGet (StationId.number x) = ⟨s, .ok, .station (s.stationView x)⟩ := by
  simp only [State.stationGet, stationOf_number]

end

/-! ## The replies -/

section
variable {s u : State} {tag : Byte} {status : Status} {r : Result} {n : Nat} (hs : s.ready)
include hs

theorem exec_stationOpen (ha : s.stationOpen n = ⟨u, status, r⟩) :
    exec (.stationOpen tag n) s = .next (finish (u.replied 0x58 tag status r)) :=
  request_answered (c := .stationOpen tag n) (act := fun s => s.stationOpen n) hs rfl ha

theorem exec_stationClose (ha : s.stationClose n = ⟨u, status, r⟩) :
    exec (.stationClose tag n) s = .next (finish (u.replied 0x59 tag status r)) :=
  request_answered (c := .stationClose tag n) (act := fun s => s.stationClose n) hs rfl ha

theorem exec_stationGet (ha : s.stationGet n = ⟨u, status, r⟩) :
    exec (.stationGet tag n) s = .next (finish (u.replied 0x5B tag status r)) :=
  request_answered (c := .stationGet tag n) (act := fun s => s.stationGet n) hs rfl ha

section
variable {args : Four CassetteArgs} {claimPeriod takePeriod : Nat} {back : Bool}

/-- A STATION.LOAD that is taken: the cassettes are tested after the reply (R150). -/
theorem exec_stationLoad_taken (ha : s.stationLoad n args claimPeriod takePeriod back = ⟨u, .ok, r⟩) :
    exec (.stationLoad tag n args claimPeriod takePeriod back) s = .next (finish ((u.replied 0x5A tag .ok r).afterLoad n)) := by
  change request (.stationLoad tag n args claimPeriod takePeriod back) (fun s => s.stationLoad n args claimPeriod takePeriod back)
    (fun s => s.afterLoad n) s = _
  rw [request_ready _ _ hs rfl, takeRequest_ok (by rw [ha]), ha]

theorem exec_stationLoad_refused (ha : s.stationLoad n args claimPeriod takePeriod back = ⟨u, status, r⟩) (hr : status ≠ .ok) :
    exec (.stationLoad tag n args claimPeriod takePeriod back) s = .next (finish (u.replied 0x5A tag status r)) := by
  change request (.stationLoad tag n args claimPeriod takePeriod back) (fun s => s.stationLoad n args claimPeriod takePeriod back)
    (fun s => s.afterLoad n) s = _
  rw [request_ready _ _ hs rfl, takeRequest_refused (by rw [ha]; exact hr), ha]

end

end

theorem afterLoad_number (s : State) (x : StationId) : s.afterLoad (StationId.number x) = s.testLoaded x := by
  simp only [State.afterLoad, stationOf_number]

/-! ## A close behind a dispense (R142, R149) -/

@[simp] theorem station_replied (s : State) (kind tag : Byte) (status : Status) (result : Result) (x : StationId) :
    (s.replied kind tag status result).station x = s.station x := by
  cases x <;> rfl

/-- The part as a STATION.CLOSE leaves it whose station had a dispense in progress. -/
def State.closedBehind (s : State) (tag : Byte) (x : StationId) (d : Dispense) : State :=
  finish ((({ s with store := (s.returnQueue x).store }.modStation x (fun v => { v with state := .closing d, queue := [] })).post
    (.stationChange x .closing (s.station x).link.isUp .request)).replied 0x59 tag .ok .none)

section
variable (s : State) (tag : Byte) (x : StationId) (d : Dispense)

@[simp] theorem closedBehind_store : (s.closedBehind tag x d).store = (s.returnQueue x).store := by simp [State.closedBehind]
@[simp] theorem closedBehind_lanes : (s.closedBehind tag x d).lanes = s.lanes.map Lane.repace := by simp [State.closedBehind]
@[simp] theorem closedBehind_tables : (s.closedBehind tag x d).tables = s.tables := by simp [State.closedBehind]
@[simp] theorem closedBehind_sightings : (s.closedBehind tag x d).sightings = s.sightings := by simp [State.closedBehind]
@[simp] theorem closedBehind_finalOrder : (s.closedBehind tag x d).finalOrder = s.finalOrder := by simp [State.closedBehind]

theorem recordAt_closedBehind (k : SlotIdx) : (s.closedBehind tag x d).recordAt k = (s.returnQueue x).recordAt k := by
  rw [State.recordAt, closedBehind_store]
  rfl

theorem station_withStore (store : List (SlotIdx × SettleRec)) (y : StationId) : { s with store := store }.station y = s.station y := by
  cases y <;> rfl

theorem station_closedBehind_same : (s.closedBehind tag x d).station x = { s.station x with state := .closing d, queue := [] } := by
  rw [State.closedBehind, station_finish, station_replied, station_post, station_modStation_same, station_withStore]

theorem station_closedBehind_ne {y : StationId} (h : y ≠ x) : (s.closedBehind tag x d).station y = s.station y := by
  rw [State.closedBehind, station_finish, station_replied, station_post, station_modStation_ne _ _ h.symm, station_withStore]

end

end Sys2Proof.Machine
end

section
/-! The statements about the payout stations and their dispensers, settled. -/

namespace Sys2Proof.Machine

/-- Settles O42: the breakdown by its orders and the order of the cassettes; then the one record an OPEN station serves. -/
theorem breakdownRule : Obligations.BreakdownRule := by
  intro cs cash
  obtain ⟨most1, most2, most3, most4⟩ := breakdown_le_counts cs cash
  refine ⟨valueOf_breakdown_le cs cash, noteCount_breakdown_le cs cash, most1, most2, most3, most4, rfl, fun _ _ => rfl,
    fun _ _ _ _ _ => rfl, ?_, fun k c => mem_takingOrder, fun s x k r opened queued hr hc ho => ?_⟩
  · exact (takingOrder_pairwise cs).imp (fun h => (takenBefore_iff _ _).1 h)
  · subst hc ho
    rw [serve_of_one_queued opened queued hr]
    have most := valueOf_breakdown_le (s.station x).cassettes r.outstanding
    split
    · refine ⟨by rw [cassettes_creditMove, station_modStation_same], ?_⟩
      rw [recordAt_creditMove_whole, modStation_host]
    · next worth =>
      exact ⟨by rw [cassettes_startDispense, station_modStation_same], recordAt_startDispense _ x k r _ worth most⟩

/-- Settles O43: the pick by what was ordered and what it is worth, then the test of each cassette. -/
theorem pickRule : Obligations.PickRule := by
  refine ⟨fun s x d r since picked mk hr hl hm hd hp hrec hn => ?_, fun s x n => ?_⟩
  · intro cs linked event
    have cassettes : (linked.station x).cassettes = cs := cassettes_linkHeard s x
    have state : (linked.station x).state = mk d := (state_linkHeard s x).trans hd
    have record : linked.recordAt d.slot = some r := (recordAt_linkHeard s x _).trans hrec
    have now : linked.now = s.now := linkHeard_now s x
    have taken : exec event s = .next (finish (linked.takePick x d picked).enterParked) :=
      exec_picked_of_pick hr hl hn hm hd hp
    refine ⟨fun h1 h2 h3 h4 => ?_, fun more => ?_⟩
    · intro counted presenting
      have inOrder : overPicked d.ordered picked = false :=
        Bool.eq_false_iff.2 (fun more => by have := (overPicked_iff _ _).1 more; omega)
      have counts : linked.setCounts x (countsAfterPick (linked.station x).cassettes d.ordered picked) = counted := by
        simp only [countsAfterPick, cassettes, countAfterPick_eq h1, countAfterPick_eq h2, countAfterPick_eq h3, countAfterPick_eq h4]
        rfl
      rw [taken]
      refine ⟨fun value full => ?_, fun value short => ?_, fun nothing cash => ?_⟩
      · rw [takePick_of_full inOrder record hm state (by rw [cassettes]; exact value) (by rw [cassettes]; exact full), counts, now]
        rfl
      · rw [takePick_of_short inOrder record hm state (by rw [cassettes]; exact value) (by rw [cassettes]; exact short), counts,
          cassettes, now]
        rfl
      · rw [takePick_of_nothing inOrder record (by rw [cassettes]; exact nothing) cash, counts]
    · rw [taken, takePick_of_over ((overPicked_iff _ _).2 more), cassettes]
      rfl
  · exact setCounts_eq s x n

/-- Settles O44: the dispense by the state of the station; no parked drop can enter, as none could before. -/
theorem presentedTaken : Obligations.PresentedTaken := by
  intro s x since hr hl hp
  refine ⟨fun d notes hd hs => exec_presented_of_present hr hl hp (.inl rfl) hd hs,
    fun d notes hd hs => exec_presented_of_present hr hl hp (.inr rfl) hd hs, fun idle => ?_⟩
  rw [exec_presented hr hl, presentedArrives_of_no_dispense (by rw [state_linkHeard]; exact idle), State.linkHeard,
    enterParked_modStation_of_no_entry hp]

/-- Settles O59: each request by the answer its station's state gives; a close behind a dispense by the records it returns. -/
theorem stationRequests : Obligations.StationRequests := by
  refine ⟨fun s tag x hs => ?_, fun s tag x hs => ?_, fun s tag x args cs claimPeriod takePeriod back hs hc c1 c2 t1 t2 => ?_,
    fun s x => ?_⟩
  · exact ⟨fun since shut up => exec_stationOpen hs (stationOpen_of_shut shut up), fun h => exec_stationOpen hs (stationOpen_refused h)⟩
  · refine ⟨fun idle => exec_stationClose hs (stationClose_of_idle idle), fun d serving => ?_,
      fun h => exec_stationClose hs (stationClose_refused h)⟩
    refine ⟨s.closedBehind tag x d, exec_stationClose hs (stationClose_of_serving serving), station_closedBehind_same s tag x d,
      fun y other => station_closedBehind_ne s tag x d other, closedBehind_lanes s tag x d, closedBehind_tables s tag x d,
      closedBehind_sightings s tag x d, closedBehind_finalOrder s tag x d, fun k absent => ?_, fun k r queued hr bound => ?_, ?_⟩
    · rw [recordAt_closedBehind, recordAt_returnQueue_of_not_mem absent]
    · rw [recordAt_closedBehind, recordAt_returnQueue_of_mem queued hr bound]
    · rw [closedBehind_store]
      rfl
  · have periods : periodsInRange claimPeriod takePeriod = true := by
      simp [periodsInRange, within, c1, c2, t1, t2]
    refine ⟨fun shut => ?_, fun h => exec_stationLoad_refused hs (stationLoad_refused back hc periods h) nofun,
      exec_stationGet hs stationGet_eq⟩
    exact (exec_stationLoad_taken hs (stationLoad_of_shut back hc periods shut)).trans (by rw [afterLoad_number]; rfl)
  · exact testLoaded_eq s x

end Sys2Proof.Machine
end

section
/-! SUPPORT. A journal write (R165, R168, R169): the entries it keeps, when it overwrites an unread entry, the marks and alarms it leaves and the
notices it makes due; and counters below and at the top of their range (R171, R173). -/

namespace Sys2Proof.Machine

/-! ## The entries after a write -/

/-- A journal that holds no more than its 256 entries gives up the oldest exactly when it is full (R165). -/
theorem write_entries_of_le {j : Journal} (i : LaneIdx) (stamp : Stamp) (body : JournalBody) (h : j.entries.length ≤ 256) :
    (j.write i stamp body).1.entries =
      (if j.entries.length = 256 then j.entries.tail else j.entries) ++ [⟨j.nextSeq, stamp, body⟩] := by
  rw [write_entries, Journal.append]
  by_cases full : j.entries.length = 256
  · have most : Config.journalSize ≤ j.entries.length := Nat.le_of_eq full.symm
    rw [if_pos most, if_pos full, full]
    exact congrArg (· ++ _) List.drop_one
  · have room : ¬ Config.journalSize ≤ j.entries.length := fun most => full (Nat.le_antisymm h most)
    rw [if_neg room, if_neg full]

/-- The newest number after a write is the one the entry took (R165). -/
theorem newest_append (j : Journal) (stamp : Stamp) (body : JournalBody) : (j.append stamp body).newest = j.nextSeq := by
  rw [newest_eq]
  simp only [Journal.append, List.getLast?_concat, Option.map_some, Option.getD_some]

/-- What is unread after a write is what lies above the read mark, up to the entry written (R168). -/
theorem unread_append (j : Journal) (stamp : Stamp) (body : JournalBody) :
    (j.append stamp body).unread = j.nextSeq - (j.append stamp body).readMark := by
  have written : (j.append stamp body).entries.isEmpty = false := by simp [Journal.append]
  rw [Journal.unread, written, newest_append]
  rfl

/-! ## When a write overwrites an unread entry -/

theorem oldest_cons {j : Journal} {e : JournalEntry} {rest : List JournalEntry} (h : j.entries = e :: rest) : j.oldest = e.seq := by
  rw [Journal.oldest, h]
  rfl

theorem wraps_iff (j : Journal) : j.wraps = true ↔ 256 ≤ j.entries.length ∧ j.readMark < j.oldest := by
  rw [Journal.wraps, Bool.and_eq_true_iff, decide_eq_true_iff, decide_eq_true_iff]
  rfl

/-- A full journal whose oldest entry is unread is overwritten there (R168). -/
theorem wraps_of_unread {j : Journal} {e : JournalEntry} {rest : List JournalEntry} (full : j.entries.length = 256)
    (oldest : j.entries = e :: rest) (unread : j.readMark < e.seq) : j.wraps = true :=
  (wraps_iff j).2 ⟨Nat.le_of_eq full.symm, oldest_cons oldest ▸ unread⟩

/-- With room left, or with the oldest entry read, a write overwrites nothing unread (R168). -/
theorem not_wraps_of_room_or_read {j : Journal}
    (h : j.entries.length < 256 ∨ ∃ e rest, j.entries = e :: rest ∧ e.seq ≤ j.readMark) : j.wraps = false := by
  refine Bool.eq_false_iff.2 (fun wraps => ?_)
  obtain ⟨full, unread⟩ := (wraps_iff j).1 wraps
  obtain room | ⟨e, rest, oldest, read⟩ := h
  · omega
  · rw [oldest_cons oldest] at unread
    omega

/-! ## Marks, alarms and notices after a write -/

theorem write_nextSeq (j : Journal) (i : LaneIdx) (stamp : Stamp) (body : JournalBody) :
    (j.write i stamp body).1.nextSeq = nextSequence j.nextSeq := rfl

theorem write_readMark (j : Journal) (i : LaneIdx) (stamp : Stamp) (body : JournalBody) :
    (j.write i stamp body).1.readMark = if j.wraps then j.oldest else j.readMark := rfl

theorem write_unread (j : Journal) (i : LaneIdx) (stamp : Stamp) (body : JournalBody) :
    (j.write i stamp body).1.unread = j.nextSeq - (j.write i stamp body).1.readMark := unread_append j stamp body

/-- An overwrite of an unread entry leaves the wrap alarm disarmed, any other write leaves it as it is (R169). -/
theorem write_wrapArmed (j : Journal) (i : LaneIdx) (stamp : Stamp) (body : JournalBody) :
    (j.write i stamp body).1.wrapArmed = (j.wrapArmed && !j.wraps) := by
  change (j.wrapArmed && !(j.wraps && j.wrapArmed)) = _
  cases j.wrapArmed
  · rfl
  · rw [Bool.and_true]

/-- The half alarm stays armed only while fewer than 128 entries are unread (R169). -/
theorem write_halfArmed (j : Journal) (i : LaneIdx) (stamp : Stamp) (body : JournalBody) :
    (j.write i stamp body).1.halfArmed = (j.halfArmed && decide ((j.write i stamp body).1.unread < 128)) := by
  change (j.halfArmed && !(decide (128 ≤ (j.write i stamp body).1.unread) && j.halfArmed)) = _
  cases j.halfArmed
  · rfl
  · simp only [Bool.and_true, Bool.true_and, ← decide_not, Nat.not_le]

/-- JOURNAL_WRAP, when a write makes it due (R169). -/
def Journal.wrapNotice (j : Journal) (i : LaneIdx) : List NoticeBody :=
  if j.wraps && j.wrapArmed then [.journalWrap i j.oldest j.nextSeq] else []

/-- JOURNAL_HALF, when `unread` entries are unread after a write (R169). -/
def Journal.halfNotice (j : Journal) (i : LaneIdx) (unread : Nat) : List NoticeBody :=
  if decide (128 ≤ unread) && j.halfArmed then [.journalHalf i unread j.nextSeq] else []

/-- The notices of a write, JOURNAL_WRAP first (R169). -/
theorem write_notices (j : Journal) (i : LaneIdx) (stamp : Stamp) (body : JournalBody) :
    (j.write i stamp body).2 = j.wrapNotice i ++ j.halfNotice i (j.write i stamp body).1.unread := by
  have wrap : (if j.wraps && j.wrapArmed then [NoticeBody.journalWrap i (j.append stamp body).readMark j.nextSeq] else []) =
      j.wrapNotice i := by
    unfold Journal.wrapNotice
    split
    · next due =>
      have wraps : j.wraps = true := (Bool.and_eq_true_iff.1 due).1
      simp only [Journal.append, wraps, if_true]
    · rfl
  rw [← wrap, Journal.halfNotice, ← newest_append j stamp body]
  rfl

theorem wrapNotice_of_overwrite {j : Journal} {i : LaneIdx} (h : j.wraps = true) (armed : j.wrapArmed = true) :
    j.wrapNotice i = [.journalWrap i j.oldest j.nextSeq] := by
  rw [Journal.wrapNotice, h, armed]
  rfl

theorem wrapNotice_nil {j : Journal} {i : LaneIdx} (h : j.wrapArmed = false ∨ j.wraps = false) : j.wrapNotice i = [] := by
  refine if_neg (fun due => ?_)
  obtain ⟨wraps, armed⟩ := Bool.and_eq_true_iff.1 due
  simp [wraps, armed] at h

theorem halfNotice_of_unread {j : Journal} {i : LaneIdx} {n : Nat} (h : 128 ≤ n) (armed : j.halfArmed = true) :
    j.halfNotice i n = [.journalHalf i n j.nextSeq] := by
  rw [Journal.halfNotice, decide_eq_true h, armed]
  rfl

theorem halfNotice_nil {j : Journal} {i : LaneIdx} {n : Nat} (h : n < 128 ∨ j.halfArmed = false) : j.halfNotice i n = [] := by
  refine if_neg (fun due => ?_)
  obtain ⟨unread, armed⟩ := Bool.and_eq_true_iff.1 due
  obtain few | disarmed := h
  · exact absurd (of_decide_eq_true unread) (by omega)
  · exact absurd (armed.symm.trans disarmed) nofun

/-! ## Counters -/

/-- Below its top a lane counter rises by 1 and keeps its overflow flag (R171). -/
theorem Counter.raise_below {c : Counter} (h : c.value < 1073741823) : c.raise = { c with value := c.value + 1 } :=
  if_neg (Nat.ne_of_lt h)

/-- At its top a lane counter becomes 0 with its overflow flag set (R171). -/
theorem Counter.raise_top {c : Counter} (h : c.value = 1073741823) : c.raise = { value := 0, overflow := true } := if_pos h

/-- Below its top a yard counter rises by 1 (R173). -/
theorem raise32_below {n : Nat} (h : n < 4294967295) : raise32 n = n + 1 := if_neg (Nat.ne_of_lt h)

/-- At its top a yard counter becomes 0 (R173). -/
theorem raise32_top : raise32 4294967295 = 0 := if_pos rfl

end Sys2Proof.Machine
end

section
/-! The statement about journals and counters, settled. -/

namespace Sys2Proof.Machine

/-- Settles O60: a write by whether it overwrites an unread entry, with its notices in order; then counters below and at their tops. -/
theorem journalAndCounterRule : Obligations.JournalAndCounterRule := by
  refine ⟨fun j i stamp body held => ?_, fun _ _ _ => rfl, fun _ => Counter.raise_below, fun _ => Counter.raise_top, raise32_top,
    fun _ => raise32_below⟩
  intro w
  obtain ⟨low, high⟩ := nextSequence_range j.nextSeq
  refine ⟨write_entries_of_le i stamp body held, append_length_le j stamp body, nextSequence_below, low, high,
    fun e rest full oldest unread => ?_, fun kept => ?_, write_halfArmed j i stamp body, write_unread j i stamp body,
    j.wrapNotice i, j.halfNotice i w.unread, write_notices j i stamp body, fun e rest full oldest unread armed => ?_,
    fun quiet => wrapNotice_nil (quiet.imp_right not_wraps_of_room_or_read), halfNotice_of_unread, halfNotice_nil⟩
  · rw [write_readMark, write_wrapArmed, wraps_of_unread full oldest unread, oldest_cons oldest]
    exact ⟨rfl, Bool.and_false _⟩
  · rw [write_readMark, write_wrapArmed, not_wraps_of_room_or_read kept]
    exact ⟨rfl, Bool.and_true _⟩
  · rw [wrapNotice_of_overwrite (wraps_of_unread full oldest unread) armed, oldest_cons oldest]

end Sys2Proof.Machine
end

section
/-! SUPPORT. No command touches the commands that wait: the operations of each block keep them, what every request answers keeps them, and so does
every event and every request taken (R176, log 4). -/

namespace Sys2Proof.Machine

/-! ## The operations of the blocks -/

@[simp] theorem examineClasses_pending (s : State) : s.examineClasses.pending = s.pending := (acts_examineClasses s).pending
@[simp] theorem examineMarks_pending (s : State) : s.examineMarks.pending = s.pending := (acts_examineMarks s).pending
@[simp] theorem examineAccounts_pending (s : State) : s.examineAccounts.pending = s.pending := (acts_examineAccounts s).pending
@[simp] theorem examineClassAt_pending (s : State) (k : Nat) : (s.examineClassAt k).pending = s.pending := (acts_examineClassAt s k).pending
@[simp] theorem examineMarkAt_pending (s : State) (k : Nat) : (s.examineMarkAt k).pending = s.pending := (acts_examineMarkAt s k).pending
@[simp] theorem examinePoolAt_pending (s : State) (k : Nat) : (s.examinePoolAt k).pending = s.pending := (acts_examinePoolAt s k).pending
@[simp] theorem examineAccountAt_pending (s : State) (k : Nat) : (s.examineAccountAt k).pending = s.pending :=
  (acts_examineAccountAt s k).pending

@[simp] theorem stationChanged_pending (s : State) (x : StationId) (cause : StationCause) : (s.stationChanged x cause).pending = s.pending :=
  (acts_stationChanged s x cause).pending
@[simp] theorem returnQueue_pending (s : State) (x : StationId) : (s.returnQueue x).pending = s.pending := (acts_returnQueue s x).pending
@[simp] theorem enterParked_pending (s : State) : s.enterParked.pending = s.pending := (acts_enterParked s).pending
@[simp] theorem handOverWaiting_pending (s : State) (i : LaneIdx) : (s.handOverWaiting i).pending = s.pending :=
  (acts_handOverWaiting s i).pending

/-- Whatever the record and the sum: the money law that `acts_creditMove` speaks of is no premise. -/
@[simp] theorem creditMove_pending (s : State) (k : SlotIdx) (r : SettleRec) (sum : Nat) (reason : CreditReason) :
    (s.creditMove k r sum reason).pending = s.pending := by
  unfold State.creditMove
  dsimp only
  split
  · rw [post_pending, becomeFinal_pending, leaveQueues_pending]
  · rw [post_pending, setRecord_pending]

/-- Whatever the record has given out: the money law that `acts_settle` speaks of is no premise. -/
@[simp] theorem settle_pending (s : State) (k : SlotIdx) (r : SettleRec) : (s.settle k r).pending = s.pending := by
  have posted : ∀ (c : Prop) [Decidable c] (u : State) (b : NoticeBody), (if c then u.post b else u).pending = u.pending := by
    intro c _ u b
    split
    · exact post_pending u b
    · rfl
  unfold State.settle
  dsimp only
  split
  · rw [becomeFinal_pending, posted, post_pending, examineAccounts_pending]
  · rw [State.awaitClaim, setRecord_pending, posted, post_pending, examineAccounts_pending]

@[simp] theorem ageAll_pending (s : State) : s.ageAll.pending = s.pending := by rw [ageAll_eq]

/-! ## The host receiver (R175, R176) -/

@[simp] theorem linkFault_pending (s : State) (cause : LinkCause) (kind tag : Byte) : (s.linkFault cause kind tag).pending = s.pending :=
  post_pending _ _

@[simp] theorem bufferRequest_pending (s : State) (f : Frame) : (s.bufferRequest f).pending = s.pending := by
  unfold State.bufferRequest
  split
  · rfl
  · exact linkFault_pending s _ _ _

theorem frameCompletes_pending (s : State) (f : Frame) (check : Check) : (s.frameCompletes f check).pending = s.pending := by
  unfold State.frameCompletes
  split
  · exact linkFault_pending _ _ _ _
  · split
    · exact bufferRequest_pending _ f
    · exact linkFault_pending _ _ _ _

theorem hostByte_pending (s : State) (b : Byte) (stopOk : Bool) : (s.hostByte b stopOk).pending = s.pending := by
  unfold State.hostByte
  split
  case h_1 => split <;> rfl
  case h_2 =>
    split
    · dsimp only
      split
      · exact linkFault_pending _ _ _ _
      · split
        · exact frameCompletes_pending s _ _
        · rfl
    · exact linkFault_pending _ _ _ _

/-! ## What the requests answer -/

section
variable (s : State)

@[simp] theorem refuse_pending (status : Status) : (refuse s status).state.pending = s.pending := rfl

theorem setClock_pending (seconds : Nat) : (s.setClock seconds).state.pending = s.pending := by
  unfold State.setClock
  split <;> rfl

theorem restart_pending : s.restart.state.pending = s.pending := by
  unfold State.restart
  split
  · exact post_pending s.restarted _
  · rfl

theorem laneOn_pending (lane : Nat) : (s.laneOn lane).state.pending = s.pending := by
  unfold State.laneOn
  split
  · rfl
  · split <;> rfl

theorem laneOff_pending (lane : Nat) : (s.laneOff lane).state.pending = s.pending := by
  unfold State.laneOff
  split
  · rfl
  · next i _ =>
    split
    · exact (acts_turnLaneOff s i).pending
    · rfl

theorem laneSet_pending (lane : Nat) (config : LaneConfigArgs) : (s.laneSet lane config).state.pending = s.pending := by
  unfold State.laneSet
  split
  · rfl
  · split <;> split <;> rfl

theorem laneGet_pending (lane : Nat) (clearPeak : Bool) : (s.laneGet lane clearPeak).state.pending = s.pending := by
  unfold State.laneGet
  split
  · rfl
  · cases clearPeak <;> rfl

theorem laneJournal_pending (lane first count : Nat) : (s.laneJournal lane first count).state.pending = s.pending := by
  unfold State.laneJournal
  split
  · rfl
  · split <;> rfl

theorem laneCounters_pending (lane : Nat) : (s.laneCounters lane).state.pending = s.pending := by
  unfold State.laneCounters
  split <;> rfl

theorem classPut_pending (number : Nat) (args : ClassArgs) : (s.classPut number args).state.pending = s.pending := by
  unfold State.classPut
  split
  · rfl
  · split
    · dsimp only
      split <;> simp
    · rfl

theorem classRemove_pending (number : Nat) : (s.classRemove number).state.pending = s.pending := by
  unfold State.classRemove
  split
  · split <;> rfl
  · rfl

theorem classGet_pending (number : Nat) : (s.classGet number).state.pending = s.pending := by
  unfold State.classGet
  dsimp only
  split
  · split <;> simp
  · rfl

theorem markPut_pending (owner serial mark : Nat) : (s.markPut owner serial mark).state.pending = s.pending := by
  unfold State.markPut
  split
  · rfl
  · split
    · dsimp only
      split
      · simp
      · split <;> simp
    · rfl

theorem markRemove_pending (sel : MarkSel) : (s.markRemove sel).state.pending = s.pending := by
  cases sel <;> dsimp only [State.markRemove]
  case key =>
    split
    · split <;> simp
    · rfl
  case slot =>
    split
    · split <;> rfl
    · rfl

theorem markGet_pending (sel : MarkSel) : (s.markGet sel).state.pending = s.pending := by
  cases sel <;> dsimp only [State.markGet]
  case key =>
    split
    · split <;> simp
    · rfl
  case slot =>
    split
    · split <;> simp
    · rfl

theorem poolPut_pending (pool : Nat) (accepted : BitVec 64) (overrides : List Override) :
    (s.poolPut pool accepted overrides).state.pending = s.pending := by
  unfold State.poolPut
  split <;> rfl

theorem poolRemove_pending (pool : Nat) : (s.poolRemove pool).state.pending = s.pending := by
  unfold State.poolRemove
  split
  · split
    · rfl
    · dsimp only
      split <;> simp
  · rfl

theorem poolGet_pending (pool : Nat) : (s.poolGet pool).state.pending = s.pending := by
  unfold State.poolGet
  split
  · dsimp only
    split <;> simp
  · rfl

theorem accountPut_pending (number : Nat) (fields : AccountArgs) : (s.accountPut number fields).state.pending = s.pending := by
  unfold State.accountPut
  split
  · rfl
  · dsimp only
    split
    · simp
    · split
      · simp
      · split <;> simp

@[simp] theorem accountErase_pending (k number : Nat) : (s.accountErase k number).state.pending = s.pending := by
  unfold State.accountErase
  split <;> rfl

theorem accountRemove_pending (sel : AccountSel) : (s.accountRemove sel).state.pending = s.pending := by
  cases sel <;> dsimp only [State.accountRemove]
  case number =>
    split
    · split <;> simp
    · rfl
  case slot =>
    split
    · split <;> simp
    · rfl

theorem accountGet_pending (sel : AccountSel) : (s.accountGet sel).state.pending = s.pending := by
  cases sel <;> dsimp only [State.accountGet]
  case number =>
    split
    · split <;> simp
    · rfl
  case slot =>
    split
    · split <;> simp
    · rfl

theorem sightHold_pending (period : Nat) : (s.sightHold period).state.pending = s.pending := by
  unfold State.sightHold
  split
  · exact ageAll_pending _
  · rfl

theorem sightFind_pending (owner serial : Nat) : (s.sightFind owner serial).state.pending = s.pending := by
  unfold State.sightFind
  split
  · split <;> rfl
  · rfl

theorem sightForget_pending (owner serial : Nat) : (s.sightForget owner serial).state.pending = s.pending := by
  unfold State.sightForget
  split
  · split <;> rfl
  · rfl

theorem openDrop_pending (i : LaneIdx) (account : Nat) (driver : List Byte) (declarations : List Declaration) :
    (s.openDrop i account driver declarations).state.pending = s.pending := by
  unfold State.openDrop
  dsimp only
  rw [journalWrite_pending, modLane_pending, detachSightings_pending, handOverWaiting_pending]

theorem dropOpen_pending (lane account : Nat) (driver : List Byte) (declarations : List Declaration) :
    (s.dropOpen lane account driver declarations).state.pending = s.pending := by
  unfold State.dropOpen
  split
  · rfl
  · split
    · split
      · dsimp only
        split
        · exact examineAccounts_pending s
        · split
          · simp
          · split
            · simp
            · rw [openDrop_pending, examinePoolAt_pending, examineAccounts_pending]
      · rfl
    · rfl

theorem dropClose_pending (number : Nat) : (s.dropClose number).state.pending = s.pending := by
  unfold State.dropClose
  split
  · rfl
  · split
    case h_1 => rfl
    case h_2 => rfl
    case h_3 => split <;> rfl

theorem afterClose_pending (number : Nat) : (s.afterClose number).pending = s.pending := by
  unfold State.afterClose
  split
  · exact (acts_quietTest s _).pending
  · rfl

theorem dropResolve_pending (number : Nat) (args : List ResolveArgs) : (s.dropResolve number args).state.pending = s.pending := by
  unfold State.dropResolve
  split
  · rfl
  · split
    · rfl
    · split
      case h_1 => rfl
      case h_2 => rfl
      case h_3 =>
        split
        · dsimp only
          split
          · rfl
          · split <;> rfl
        · rfl

theorem dropApprove_pending (number : Nat) (writeOff : Bool) : (s.dropApprove number writeOff).state.pending = s.pending := by
  unfold State.dropApprove
  split
  · rfl
  · split
    case h_1 => rfl
    case h_2 => rfl
    case h_3 k r _ =>
      split
      · split
        · exact settle_pending s k r
        · split
          · rfl
          · split
            · rfl
            · exact settle_pending (s.setRecord k _) k _
      · rfl

theorem dropAbandon_pending (number : Nat) : (s.dropAbandon number).state.pending = s.pending := by
  unfold State.dropAbandon
  split
  · rfl
  · split
    case h_1 => rfl
    case h_2 i d _ => exact (acts_abandonOnLane s i d).pending
    case h_3 k r _ =>
      split
      · exact (acts_voidRecord s k r).pending
      · rfl

theorem dropGet_pending (sel : DropSel) (part : DropPart) : (s.dropGet sel part).state.pending = s.pending := by
  unfold State.dropGet
  split
  · cases sel <;> dsimp only
    case number =>
      split
      · rfl
      · split <;> rfl
    case lane =>
      split
      · rfl
      · split <;> rfl
  · rfl

theorem recordCredit_pending (number : Nat) : (s.recordCredit number).state.pending = s.pending := by
  unfold State.recordCredit
  split
  · rfl
  · split
    case h_1 => rfl
    case h_2 => rfl
    case h_3 k r _ =>
      split
      case h_1 => exact creditMove_pending s k r _ _
      case h_2 => exact creditMove_pending s k r _ _
      case h_3 => rfl

theorem recordClear_pending (sel : ClearSel) : (s.recordClear sel).state.pending = s.pending := by
  cases sel <;> dsimp only [State.recordClear]
  case number =>
    split
    · rfl
    · split
      case h_1 => rfl
      case h_2 => rfl
      case h_3 => split <;> rfl

theorem recordGet_pending (sel : RecordSel) : (s.recordGet sel).state.pending = s.pending := by
  cases sel <;> dsimp only [State.recordGet]
  case number =>
    split
    · rfl
    · split <;> rfl
  case slot =>
    split
    · split <;> rfl
    · rfl

theorem stationOpen_pending (station : Nat) : (s.stationOpen station).state.pending = s.pending := by
  have opened : ∀ x, ((s.setStationState x .opened).stationChanged x .request).pending = s.pending := fun x => by
    rw [stationChanged_pending, setStationState_pending]
  unfold State.stationOpen
  split
  · rfl
  · next x _ =>
    dsimp only
    split
    case h_1 =>
      split
      · exact opened x
      · rfl
    case h_2 =>
      split
      · exact opened x
      · rfl
    case h_3 => rfl

theorem stationClose_pending (station : Nat) : (s.stationClose station).state.pending = s.pending := by
  unfold State.stationClose
  split
  · rfl
  · split <;> simp

theorem stationLoad_pending (station : Nat) (args : Four CassetteArgs) (claimPeriod takePeriod : Nat) (returnTally : Bool) :
    (s.stationLoad station args claimPeriod takePeriod returnTally).state.pending = s.pending := by
  unfold State.stationLoad
  split
  · split
    · dsimp only
      split <;> simp
    · rfl
  · rfl

theorem afterLoad_pending (station : Nat) : (s.afterLoad station).pending = s.pending := by
  unfold State.afterLoad
  split
  · exact (acts_testLoaded s _).pending
  · rfl

theorem stationGet_pending (station : Nat) : (s.stationGet station).state.pending = s.pending := by
  unfold State.stationGet
  split <;> rfl

end

/-! ## Events and requests -/

/-- If this is a next state, the commands that wait are those of `s`. -/
def KeepsPending (s : State) (o : Outcome) : Prop := ∀ t, o = .next t → t.pending = s.pending

theorem keepsPending_next {s t : State} (h : t.pending = s.pending) : KeepsPending s (.next t) := by
  rintro _ ⟨⟩
  exact h

/-- What ends an event keeps the commands that wait, as what the event does must (R49, R177). -/
theorem event_keepsPending {f : State → State} {s : State} (h : (f s).pending = s.pending) : KeepsPending s (event f s) := by
  unfold event
  split
  · exact keepsPending_next rfl
  · exact keepsPending_next ((finish_pending _).trans h)

/-- A line changes while RST is held, or in an event (R183, log 8). -/
theorem lineChange_keepsPending {f : State → State} {s t : State} (held : t.pending = s.pending) (running : (f s).pending = s.pending) :
    KeepsPending s (if s.rstHeld then .next t else event f s) := by
  split
  · exact keepsPending_next held
  · exact event_keepsPending running

/-- What happens only once it is due keeps what it keeps when it happens (log 2). -/
theorem pending_of_due {c : Prop} [Decidable c] {s t : State} (h : t.pending = s.pending) : (if c then t else s).pending = s.pending := by
  split
  · exact h
  · rfl

theorem takeRequest_pending {f : Frame} {act : State → Answered} {after : State → State} {s : State}
    (hact : (act s).state.pending = s.pending) (hafter : ∀ u, (after u).pending = u.pending) :
    (takeRequest f act after s).pending = s.pending := by
  unfold takeRequest
  dsimp only
  split
  · exact (hafter _).trans hact
  · exact hact

/-- A request is dropped, joins the buffer or is taken; none of the three touches the commands that wait (R176). -/
theorem request_keepsPending {c : Instr} {act : State → Answered} {after : State → State} {s : State}
    (hact : ∀ u, (act u).state.pending = u.pending) (hafter : ∀ u, (after u).pending = u.pending) :
    KeepsPending s (request c act after s) := by
  have buffered : ∀ f, KeepsPending s (.next (finish (s.bufferRequest f))) := fun f =>
    keepsPending_next ((finish_pending _).trans (bufferRequest_pending s f))
  have taken : ∀ (f : Frame) (u : State), u.pending = s.pending → KeepsPending s (.next (finish (takeRequest f act after u))) :=
    fun f u hu => keepsPending_next ((finish_pending _).trans ((takeRequest_pending (hact u) hafter).trans hu))
  unfold request
  split
  · exact keepsPending_next rfl
  · split
    · exact keepsPending_next rfl
    · split
      · exact buffered _
      · split
        · exact taken _ s rfl
        · split
          · exact taken _ _ rfl
          · exact buffered _

/-- A request after whose reply nothing follows. -/
theorem request_id_keepsPending {c : Instr} {act : State → Answered} {s : State} (hact : ∀ u, (act u).state.pending = u.pending) :
    KeepsPending s (request c act id s) := request_keepsPending hact (fun _ => rfl)

/-! ## Timers and frames -/

section
variable (s : State) (i : LaneIdx)

theorem takeoffPulse_keepsPending : KeepsPending s (execTakeoffPulse i s) := by
  refine event_keepsPending (pending_of_due ?_)
  dsimp only
  split
  · exact (acts_takeOff _ i).pending
  · rfl

theorem rejectPress_keepsPending : KeepsPending s (execRejectPress i s) := by
  refine event_keepsPending (pending_of_due ?_)
  dsimp only
  split
  · exact (acts_press _ i).pending
  · rfl

theorem sightingAged_keepsPending : KeepsPending s (execSightingAged s) := by
  refine event_keepsPending ?_
  dsimp only
  split
  · rfl
  · exact pending_of_due rfl

theorem claimDeadlineExpiry_keepsPending (k : SlotIdx) : KeepsPending s (execClaimDeadlineExpiry k s) := by
  refine event_keepsPending ?_
  split
  · rfl
  · exact pending_of_due ((enterParked_pending _).trans (creditMove_pending s k _ _ _))

theorem dispenseStepTimeout_keepsPending (x : StationId) : KeepsPending s (execDispenseStepTimeout x s) := by
  refine event_keepsPending ?_
  split
  · rfl
  · exact pending_of_due ((enterParked_pending _).trans (acts_failDispense s x _ _ _).pending)

/-- A frame of a sensor head. -/
theorem headFrame_keepsPending (f : Option HeadFrame) : KeepsPending s (event (fun s => s.headFrame i f) s) :=
  event_keepsPending (acts_headFrame s i f).pending

/-- A frame of a station. -/
theorem stationFrame_keepsPending (x : StationId) (f : Option StationFrame) : KeepsPending s (event (fun s => s.stationFrame x f) s) :=
  event_keepsPending (acts_stationFrame s x f).pending

end

/-! ## Every command -/

/-- The commands that wait are as before, whatever the command. -/
theorem exec_keepsPending (c : Instr) (s : State) : KeepsPending s (exec c s) := by
  cases c <;> dsimp only [exec]
  -- resets
  case powerOnReset => exact keepsPending_next rfl
  case rstAssert => exact keepsPending_next rfl
  -- the gate
  case beamLineChange i x high => exact lineChange_keepsPending rfl rfl
  case beamEdge i x => exact event_keepsPending (pending_of_due (acts_beamEdge s i x).pending)
  case longLimit i => exact event_keepsPending (pending_of_due rfl)
  case stuckLimit i x => exact event_keepsPending (pending_of_due (acts_declareFault s i _).pending)
  case faultClear i => exact event_keepsPending (pending_of_due ((acts_clearFault s i).trans (acts_quietTest _ i)).pending)
  -- sensor heads and identity capture
  case headFrameDiscard i f check => exact headFrame_keepsPending s i _
  case headByteTimeout i => exact event_keepsPending (pending_of_due (acts_headHunts s i).pending)
  case codeFrame i owner type serial => exact headFrame_keepsPending s i _
  case measureFrame i form value => exact headFrame_keepsPending s i _
  case statusFrame i condition => exact headFrame_keepsPending s i _
  case headSilence i => exact event_keepsPending (pending_of_due (acts_declareLost s i _).pending)
  case earlyHoldExpiry i => exact event_keepsPending (pending_of_due (acts_dropEarly s i).pending)
  case lateGraceExpiry i => exact event_keepsPending (pending_of_due ((acts_endGrace s i).trans (acts_quietTest _ i)).pending)
  -- lane control
  case takeoffLineChange i high => exact lineChange_keepsPending rfl rfl
  case takeoffPulse i => exact takeoffPulse_keepsPending s i
  case takeoffSettledFall i => exact event_keepsPending (pending_of_due rfl)
  case rejectLineChange i high => exact lineChange_keepsPending rfl rfl
  case rejectPress i => exact rejectPress_keepsPending s i
  case rejectSettledRelease i => exact event_keepsPending (pending_of_due rfl)
  case rejectWindowExpiry i => exact event_keepsPending (pending_of_due rfl)
  -- sightings, drains and deadlines
  case sightingAged => exact sightingAged_keepsPending s
  case drainQuietPoint i => exact event_keepsPending (acts_quietTest s i).pending
  case drainLimit i => exact event_keepsPending (pending_of_due (acts_cutDrain s i).pending)
  case claimDeadlineExpiry k => exact claimDeadlineExpiry_keepsPending s k
  -- payout stations
  case stationFrameDiscard x f check => exact stationFrame_keepsPending s x _
  case stationByteTimeout x => exact event_keepsPending (pending_of_due (modStation_pending s x _))
  case ready x => exact stationFrame_keepsPending s x _
  case stationLinkSilence x => exact event_keepsPending (pending_of_due ((acts_loseLink s x).trans (acts_enterParked _)).pending)
  case claim x number code => exact stationFrame_keepsPending s x _
  case picked x n1 n2 n3 n4 => exact stationFrame_keepsPending s x _
  case presented x => exact stationFrame_keepsPending s x _
  case taken x => exact stationFrame_keepsPending s x _
  case retracted x => exact stationFrame_keepsPending s x _
  case dispenserFault x code => exact stationFrame_keepsPending s x _
  case dispenseStepTimeout x => exact dispenseStepTimeout_keepsPending s x
  -- the host link
  case hostByteReceived b stopOk => exact event_keepsPending (hostByte_pending s b stopOk)
  case hostFrame f check => exact event_keepsPending (frameCompletes_pending s f check)
  case hostByteTimeout => exact event_keepsPending (pending_of_due (linkFault_pending s.hostHunts _ _ _))
  case transmitDone => exact event_keepsPending rfl
  case yardClockStep => exact event_keepsPending (pending_of_due rfl)
  case unknownRequest tag kind => exact request_id_keepsPending (fun _ => rfl)
  -- PART requests
  case partPing tag => exact request_id_keepsPending (fun _ => rfl)
  case partClock tag seconds => exact request_id_keepsPending (fun u => setClock_pending u seconds)
  case partFilter tag groups => exact request_id_keepsPending (fun _ => rfl)
  case partRestart tag => exact request_id_keepsPending restart_pending
  case partCounters tag => exact request_id_keepsPending (fun _ => rfl)
  -- LANE requests
  case laneOn tag lane => exact request_id_keepsPending (fun u => laneOn_pending u lane)
  case laneOff tag lane => exact request_id_keepsPending (fun u => laneOff_pending u lane)
  case laneSet tag lane config => exact request_id_keepsPending (fun u => laneSet_pending u lane config)
  case laneGet tag lane clearPeak => exact request_id_keepsPending (fun u => laneGet_pending u lane clearPeak)
  case laneJournal tag lane first count => exact request_id_keepsPending (fun u => laneJournal_pending u lane first count)
  case laneCounters tag lane => exact request_id_keepsPending (fun u => laneCounters_pending u lane)
  -- requests on the tables
  case classPut tag number entry => exact request_id_keepsPending (fun u => classPut_pending u number entry)
  case classRemove tag number => exact request_id_keepsPending (fun u => classRemove_pending u number)
  case classGet tag number => exact request_id_keepsPending (fun u => classGet_pending u number)
  case markPut tag owner serial mark => exact request_id_keepsPending (fun u => markPut_pending u owner serial mark)
  case markRemove tag sel => exact request_id_keepsPending (fun u => markRemove_pending u sel)
  case markGet tag sel => exact request_id_keepsPending (fun u => markGet_pending u sel)
  case poolPut tag pool accepted overrides => exact request_id_keepsPending (fun u => poolPut_pending u pool accepted overrides)
  case poolRemove tag pool => exact request_id_keepsPending (fun u => poolRemove_pending u pool)
  case poolGet tag pool => exact request_id_keepsPending (fun u => poolGet_pending u pool)
  case accountPut tag number fields => exact request_id_keepsPending (fun u => accountPut_pending u number fields)
  case accountRemove tag sel => exact request_id_keepsPending (fun u => accountRemove_pending u sel)
  case accountGet tag sel => exact request_id_keepsPending (fun u => accountGet_pending u sel)
  -- SIGHT requests
  case sightHold tag period => exact request_id_keepsPending (fun u => sightHold_pending u period)
  case sightFind tag owner serial => exact request_id_keepsPending (fun u => sightFind_pending u owner serial)
  case sightForget tag owner serial => exact request_id_keepsPending (fun u => sightForget_pending u owner serial)
  -- DROP requests
  case dropOpen tag lane account driver declarations =>
    exact request_id_keepsPending (fun u => dropOpen_pending u lane account driver declarations)
  case dropClose tag number => exact request_keepsPending (fun u => dropClose_pending u number) (fun u => afterClose_pending u number)
  case dropResolve tag number entries => exact request_id_keepsPending (fun u => dropResolve_pending u number entries)
  case dropApprove tag number writeOff => exact request_keepsPending (fun u => dropApprove_pending u number writeOff) enterParked_pending
  case dropAbandon tag number => exact request_keepsPending (fun u => dropAbandon_pending u number) enterParked_pending
  case dropGet tag sel part => exact request_id_keepsPending (fun u => dropGet_pending u sel part)
  -- RECORD requests
  case recordCredit tag number => exact request_keepsPending (fun u => recordCredit_pending u number) enterParked_pending
  case recordClear tag sel => exact request_keepsPending (fun u => recordClear_pending u sel) enterParked_pending
  case recordGet tag sel => exact request_id_keepsPending (fun u => recordGet_pending u sel)
  -- STATION requests
  case stationOpen tag station => exact request_id_keepsPending (fun u => stationOpen_pending u station)
  case stationClose tag station => exact request_id_keepsPending (fun u => stationClose_pending u station)
  case stationLoad tag station cassettes claimPeriod takePeriod returnTally =>
    exact request_keepsPending (fun u => stationLoad_pending u station cassettes claimPeriod takePeriod returnTally)
      (fun u => afterLoad_pending u station)
  case stationGet tag station => exact request_id_keepsPending (fun u => stationGet_pending u station)

end Sys2Proof.Machine
end

section
/-! The statement that every command completes, settled. -/

namespace Sys2Proof.Machine

/-- Settles O2: every command answers a next state, and no next state differs in the commands that wait. -/
theorem everyCommandCompletes : Obligations.EveryCommandCompletes := by
  intro c s
  obtain ⟨t, answered⟩ := exec_answers c s
  exact ⟨t, answered, exec_keepsPending c s t answered⟩

end Sys2Proof.Machine
end
